-- ==== Sys2Proof/Word.lean ====
section
/-! DEFINITION. Word: the fixed-width values of the block (00_scope.md R6, R8) and the plain tuples of them. -/

namespace Sys2Proof

/-- "an 8-bit unsigned value" (R6, glossary). -/
abbrev Byte := BitVec 8

/-- A 16-bit operand, two bytes (R6). -/
abbrev QuarterWord := BitVec 16

/-- A 32-bit operand, four bytes (R6). -/
abbrev Halfword := BitVec 32

/-- A 32-bit bus value: command words and register contents (R7). -/
abbrev Word := BitVec 32

/-- A byte offset 0x00 to 0xFF in the register space (R7, R50). -/
abbrev Offset := BitVec 8

/-- The 64-bit scalar view of an 8-byte unit (R56, R109). -/
abbrev Scalar64 := BitVec 64

/-- A MasterKey or a Block: exactly 8 bytes, `b0` first in memory order (R6, R9). -/
structure Bytes8 where
  b0 : Byte
  b1 : Byte
  b2 : Byte
  b3 : Byte
  b4 : Byte
  b5 : Byte
  b6 : Byte
  b7 : Byte
  deriving DecidableEq, Repr

/-- The two halves of a block inside the Feistel unit. -/
structure Halves where
  l : Halfword
  r : Halfword
  deriving DecidableEq, Repr

/-- The key-schedule loop's three values `A`, `B`, `D` (R141). -/
structure KsState where
  a : Halfword
  b : Halfword
  d : Halfword
  deriving DecidableEq, Repr

/-- A KeySchedule: 16 QuarterWords `K[0..15]` and the 4 whitening Halfwords (R6). -/
structure KeySchedule where
  k : Vector QuarterWord 16
  k89 : Halfword
  k1011 : Halfword
  k1213 : Halfword
  k1415 : Halfword
  deriving DecidableEq, Repr

end Sys2Proof
end

