-- ==== Sys2Proof/Syntax.lean ====
section
/-! DEFINITION. Syntax: the four commands of spec/opcode_table.json (30_encoding.md R72). -/

namespace Sys2Proof

/-- A command. Every operand is implicit (R71), so no constructor carries one. -/
inductive Instr where
  /-- 44_command_interface.md R194. -/
  | nop
  /-- 42_key_schedule.md R147. -/
  | setkey
  /-- 43_feistel.md R167. -/
  | encrypt
  /-- 43_feistel.md R171. -/
  | decrypt
  deriving DecidableEq, Repr

end Sys2Proof
end

