-- ==== Sys2Proof/WellFormed.lean ====
section
/-! DEFINITION. WellFormed: which 32-bit values are command words (30_encoding.md R70, R74), and which commands are well formed. -/

namespace Sys2Proof

/-- The reserved field RSV, bits 31:4 of a command word, must be 0 (R70, R73). -/
def rsvClear (w : Word) : Bool := w >>> 4 == 0

/-- The field OP, bits 3:0, selects one of the four commands; 0x4 to 0xF are reserved (R72, R74). -/
def opAssigned (w : Word) : Bool := decide (w.toNat % 16 < 4)

/-- A legal command word: RSV is 0 and OP is assigned (R74). -/
def wellFormedWord (w : Word) : Bool := rsvClear w && opAssigned w

/-- A command has no field (R71), so every `Instr` is well formed. -/
def Instr.wellFormed : Instr → Bool
  | .nop => true
  | .setkey => true
  | .encrypt => true
  | .decrypt => true

end Sys2Proof
end

