-- ==== Sys2Proof/Decode.lean ====
section
/-! DEFINITION. Decode: command words to commands and back (30_encoding.md R70 to R75). -/

namespace Sys2Proof

/-- Why a word is no command. Both reasons are the one error ILLEGAL (R73, R221); log entry 9. -/
inductive DecodeReject where
  /-- RSV (bits 31:4) is not 0 (R74). -/
  | reservedBits
  /-- OP is one of 0x4 to 0xF (R74). -/
  | reservedOp
  deriving DecidableEq, Repr

/-- Field OP, bits 3:0 (R70). -/
def opField (w : Word) : BitVec 4 := w.extractLsb' 0 4

/-- Field RSV, bits 31:4 (R70). -/
def rsvField (w : Word) : BitVec 28 := w.extractLsb' 4 28

/-- The operation an OP value selects, where it selects one (R72). -/
def decodeOp (op : BitVec 4) : Except DecodeReject Instr :=
  if op = 0x0#4 then .ok .nop
  else if op = 0x1#4 then .ok .setkey
  else if op = 0x2#4 then .ok .encrypt
  else if op = 0x3#4 then .ok .decrypt
  else .error .reservedOp

/-- Total on every 32-bit word (R73): RSV is checked first, then OP selects. -/
def decode (w : Word) : Except DecodeReject Instr :=
  if rsvField w = 0 then decodeOp (opField w) else .error .reservedBits

/-- The OP value of a command (R72). -/
def opCode : Instr → BitVec 4
  | .nop => 0x0#4
  | .setkey => 0x1#4
  | .encrypt => 0x2#4
  | .decrypt => 0x3#4

/-- The one command word of a command: RSV = 0, then OP (R70, R75). -/
def encode (i : Instr) : Word := 0#28 ++ opCode i

/-- The command that a table row's bits decode to. A command is one 32-bit word presented as a bus
value, so the table's bit numbers are the word's own (R70, log entry 9); bits above `nbits` are 0. -/
def decodeTableWord (nbits w : Nat) : Option Instr :=
  if nbits ≤ 32 ∧ w < 2 ^ nbits then
    match decode (BitVec.ofNat 32 w) with
    | .ok i => some i
    | .error _ => none
  else none

end Sys2Proof
end

