-- ==== Sys2Proof/Config.lean ====
section
/-! DEFINITION. Config: the identity the model records (00_scope.md R1), what an implementation fixes (R7) and the free value of the spec, `draw32()` (R11, R191). -/

namespace Sys2Proof.Config

/-- "The identity triple a model records" (R1). -/
structure Identity where
  /-- The name of the algorithm; the source gives no version of it but this name. -/
  algorithm : String
  /-- The algorithm's number of rounds (R1, R6). -/
  rounds : Nat
  /-- The reference source that is reproduced bit-exactly, by its year. -/
  reference : String
  /-- The spec's name of the block it defines. -/
  block : String
  deriving DecidableEq, Repr

/-- The hardware this package models: the FEAL-8 cipher datapath of the repository septract/saw-ai, 8
rounds, reproduced from a 1989 reference source, which the spec calls FEAL8-DP (R1). The source gives
no vendor, part number or ISA string. -/
def identity : Identity where
  algorithm := "FEAL-8"
  rounds := 8
  reference := "1989"
  block := "FEAL8-DP"

/-- Bytes moved by the only supported access: `BUS_WIDTH` is 32 bits (R7, R52). -/
def accessBytes : Nat := 4

/-- The register space holds 256 byte offsets (R7, R50). -/
def spaceBytes : Nat := 256

/-- The free value `draw32()`: "a 32-bit value the model does not fix" (R11). The step applies it to
the draw counter of State, so that every draw is an independent value (R191 corner case 1).
DESIGN CHOICE, log entry 4 (safe): it has no body, so nothing is known of any draw. -/
opaque draw32 : Nat → Word

end Sys2Proof.Config
end

