-- ==== Sys2Proof/Machine/State.lean ====
section
/-! DEFINITION. State: the architectural state (10_state.md R20), the run around it, the reasons a step can stop, and reset. -/

namespace Sys2Proof.Machine

/-- `PEND`, the accepted command that awaits completion (R38). -/
inductive Pend where
  | none
  | setkey
  | encrypt
  | decrypt
  deriving DecidableEq, Repr

/-- The command errors and their cause (60_exceptions.md R221). -/
inductive CmdError where
  /-- RSV ≠ 0 or OP in 0x4 to 0xF. -/
  | illegal
  /-- A write to CMD, KEYIN or DIN while BUSY = 1. -/
  | proto
  /-- ENCRYPT or DECRYPT while KV = 0. -/
  | nokey
  /-- SETKEY while KF_HI = 0 or KF_LO = 0. -/
  | keylen
  /-- ENCRYPT or DECRYPT while DF_HI = 0 or DF_LO = 0. -/
  | blklen
  deriving DecidableEq, Repr

/-- The registers of the register map (20_memory.md R51). -/
inductive Reg where
  | cmd
  | status
  | keyinHi
  | keyinLo
  | dinHi
  | dinLo
  | doutHi
  | doutLo
  | sched (j : Fin 8)
  /-- Offsets 0x40 to 0xFC (R54). -/
  | reserved
  deriving DecidableEq, Repr

/-- One operation of the host's program (R190): a bus access of any size at any offset, or the loop
`POLL` (30_encoding.md R77). Sizes are in bytes. -/
inductive HostOp where
  | read (off : Offset) (size : Nat)
  | write (off : Offset) (size : Nat) (v : Word)
  | poll
  deriving DecidableEq, Repr

/-- Who moves next in the interleaving (R190): the host, the engine, or the external reset event. -/
inductive Slot where
  | host
  | engine
  | reset
  deriving DecidableEq, Repr

/-- The architectural state: exactly the fields of 10_state.md R20, in its order, and the one field the
spec adds to them, FAULTED. Nothing of a run's program or order of steps is part of it (R190). -/
structure BlockState where
  keyinHi : Halfword
  keyinLo : Halfword
  dinHi : Halfword
  dinLo : Halfword
  doutHi : Halfword
  doutLo : Halfword
  sched : Vector Halfword 8
  busy : Bool
  kv : Bool
  dv : Bool
  err : Bool
  errcode : BitVec 4
  kfHi : Bool
  kfLo : Bool
  dfHi : Bool
  dfLo : Bool
  pend : Pend
  /-- The spec's model-only record of a BusFault (R41). -/
  faulted : Bool
  deriving DecidableEq, Repr

/-- What `step` takes and answers: the architectural state, and beside it the parameters and the record
of the run, which are no state of the block (R190, R204; log entries 1, 4 and 5). -/
structure State extends BlockState where
  /-- The host's operations still to be made, next one first. -/
  host : List HostOp
  /-- The order in which the agents move, next one first. -/
  schedule : List Slot
  /-- The values the host has read, oldest first (R204). -/
  readLog : List Word
  /-- How many free values have been drawn (R191). -/
  draws : Nat
  deriving DecidableEq, Repr

/-- Why a step stops without a next state. -/
inductive Fault where
  /-- Raised by the host's turn when FAULTED is true and the host has an operation left: "the host
  agent is stuck" (R53; 93_implementation_defined.md I16). Safe: no claim about such a run holds. -/
  | hostStuck
  deriving DecidableEq, Repr

/-- Why an instruction has no meaning. -/
inductive Refusal where
  /-- An arm of `exec` without a meaning; no arm is one. Safe: nothing is claimed of it. -/
  | notModelled (mnemonic : String)
  deriving DecidableEq, Repr

/-- What one turn of an agent gives, before `exec` runs a command (log entry 7). -/
inductive Turn where
  /-- The host presented a word that decodes to `i`; `s` is the state it is run in. -/
  | command (i : Instr) (s : State)
  /-- The turn is complete. -/
  | done (s : State)
  /-- The turn cannot be taken. -/
  | stopped (f : Fault)
  deriving DecidableEq, Repr

/-- The machine right after reset (R42, R240), at the start of a run: FAULTED is false (R41), no host
operation and no schedule is given yet (log entries 1 and 8), nothing has been read or drawn. -/
def State.reset : State where
  keyinHi := 0
  keyinLo := 0
  dinHi := 0
  dinLo := 0
  doutHi := 0
  doutLo := 0
  sched := #v[0, 0, 0, 0, 0, 0, 0, 0]
  busy := false
  kv := false
  dv := false
  err := false
  errcode := 0
  kfHi := false
  kfLo := false
  dfHi := false
  dfLo := false
  pend := .none
  faulted := false
  host := []
  schedule := []
  readLog := []
  draws := 0

end Sys2Proof.Machine
end

