-- ==== Sys2Proof/Machine/Ops.lean ====
section
/-! DEFINITION. Ops: the named operations over the state that the meanings share: recording and clearing errors, beginning and ending a command, draws, the read log, reset. -/

namespace Sys2Proof.Machine

/-- The number recorded in ERRCODE (60_exceptions.md R221). -/
def errorCode : CmdError → BitVec 4
  | .illegal => 1#4
  | .proto => 2#4
  | .nokey => 3#4
  | .keylen => 4#4
  | .blklen => 5#4

/-- `raise CmdError(code)`: the machine's one way to take an exception (R220, R223). The first error
is kept; no pc, status or mode is saved and no control is transferred (R226). -/
def raiseCmdError (e : CmdError) (s : State) : State :=
  if s.err then s else { s with err := true, errcode := errorCode e }

/-- The only recovery operation: ERR and ERRCODE are cleared (R195, R226). -/
def clearError (s : State) : State := { s with err := false, errcode := 0 }

/-- A host write that BUSY = 1 refuses with PROTO and nothing else (R193, R196, R197, R224);
`act` is what it does otherwise. -/
def unlessBusy (s : State) (act : State) : State :=
  if s.busy then raiseCmdError .proto s else act

/-- `fault BusFault(off, size)`: FAULTED is set and every other state element is unchanged (R53).
The offset and the size are not recorded anywhere (R41). -/
def recordBusFault (_off : Offset) (_size : Nat) (s : State) : State := { s with faulted := true }

/-- `draw32()` (R11): the next free value, and the state in which it has been drawn (log entry 4). -/
def draw (s : State) : Word × State :=
  (Config.draw32 s.draws, { s with draws := s.draws + 1 })

/-- The host has read `v` (R204; log entry 5). -/
def logRead (v : Word) (s : State) : State := { s with readLog := s.readLog ++ [v] }

/-- The last part of every acceptance: PEND and BUSY are set (R147, R167, R171). -/
def beginCommand (p : Pend) (s : State) : State := { s with pend := p, busy := true }

/-- The last part of every completion: PEND <- NONE, BUSY <- 0 (R200). -/
def endCommand (s : State) : State := { s with pend := .none, busy := false }

/-- Reset as an event (R240): every hardware element takes its value of R42; the model-only FAULTED
is not changed (R41), and neither is the run around the block. -/
def hardwareReset (s : State) : State :=
  { s with toBlockState := { State.reset.toBlockState with faulted := s.faulted } }

end Sys2Proof.Machine
end

