-- ==== Sys2Proof/Machine/Command.lean ====
section
/-! DEFINITION. Command: NOP, and the presentation of a command word (44_command_interface.md R193, R194). -/

namespace Sys2Proof.Machine

/-- NOP (R194): nothing happens; PROTO while busy. -/
def execNop (s : State) : Host.Outcome State Fault Refusal := .next (unlessBusy s s)

/-- A word is presented to CMD (R193). A word that decodes is run by `exec`, whose meanings check
BUSY themselves; an illegal word is PROTO while busy and ILLEGAL otherwise (R225). -/
def presentCommand (w : Word) (s : State) : Turn :=
  match decode w with
  | .ok i => .command i s
  | .error _ => .done (unlessBusy s (raiseCmdError .illegal s))

end Sys2Proof.Machine
end

