-- ==== Sys2Proof/Machine/Flags.lean ====
section
/-! DEFINITION. Flags: the STATUS register as a word and the fill flags (10_state.md R30 to R36). -/

namespace Sys2Proof.Machine

/-- One flag as a field of one bit. -/
def flagBit (b : Bool) : BitVec 1 := BitVec.ofBool b

/-- STATUS as the host reads it (R30, R191): BUSY is bit 0 and DF_LO bit 11; bits 31:12 read 0 (R36). -/
def statusWord (s : State) : Word :=
  0#20 ++ flagBit s.dfLo ++ flagBit s.dfHi ++ flagBit s.kfLo ++ flagBit s.kfHi ++ s.errcode
    ++ flagBit s.err ++ flagBit s.dv ++ flagBit s.kv ++ flagBit s.busy

/-- Both halves of KEYIN were written since the last accepted SETKEY (R35, R222). -/
def keyFilled (s : State) : Bool := s.kfHi && s.kfLo

/-- Both halves of DIN were written since the last accepted ENCRYPT or DECRYPT (R35, R222). -/
def dataFilled (s : State) : Bool := s.dfHi && s.dfLo

/-- SETKEY acceptance clears KF_HI and KF_LO (R35). -/
def consumeKeyFill (s : State) : State := { s with kfHi := false, kfLo := false }

/-- ENCRYPT or DECRYPT acceptance clears DF_HI and DF_LO (R35). -/
def consumeDataFill (s : State) : State := { s with dfHi := false, dfLo := false }

/-- Status write (R195): bit 3 set clears ERR and ERRCODE, in any state; every other bit is ignored. -/
def writeStatus (v : Word) (s : State) : State :=
  if v.getLsbD 3 then clearError s else s

end Sys2Proof.Machine
end

