-- ==== Sys2Proof/Machine/Packing.lean ====
section
/-! DEFINITION. Packing: the byte/word packing unit (40_conversion.md R100 to R109). Combinational, total, big-endian (R55). -/

namespace Sys2Proof.Machine

/-- R100, the document's `bytes_to_halfword`. -/
def pack32 (b0 b1 b2 b3 : Byte) : Halfword :=
  (b0.setWidth 32 <<< 24) ||| (b1.setWidth 32 <<< 16) ||| (b2.setWidth 32 <<< 8) ||| b3.setWidth 32

/-- R101, the document's `halfword_to_bytes`; byte 0 is the most significant. -/
def unpack32 (h : Halfword) : Byte × Byte × Byte × Byte :=
  (h.extractLsb' 24 8, h.extractLsb' 16 8, h.extractLsb' 8 8, h.extractLsb' 0 8)

/-- R102. -/
def pack16 (b0 b1 : Byte) : QuarterWord := (b0.setWidth 16 <<< 8) ||| b1.setWidth 16

/-- R103. -/
def unpack16 (q : QuarterWord) : Byte × Byte := (q.extractLsb' 8 8, q.extractLsb' 0 8)

/-- R104, `from(q0, q1)`: the bytes of `q0` then those of `q1`. -/
def fromQuarterWords (q0 q1 : QuarterWord) : Halfword :=
  pack32 (unpack16 q0).1 (unpack16 q0).2 (unpack16 q1).1 (unpack16 q1).2

/-- R107, `split(x)`: bytes 0..3 and bytes 4..7. -/
def split (x : Bytes8) : Halfword × Halfword :=
  (pack32 x.b0 x.b1 x.b2 x.b3, pack32 x.b4 x.b5 x.b6 x.b7)

/-- R108, `join(h0, h1)`: the bytes of `h0` first. -/
def join (h0 h1 : Halfword) : Bytes8 :=
  let (b0, b1, b2, b3) := unpack32 h0
  let (b4, b5, b6, b7) := unpack32 h1
  ⟨b0, b1, b2, b3, b4, b5, b6, b7⟩

/-- R109, `u64(x)`: byte 0 in bits 63:56. -/
def toScalar (x : Bytes8) : Scalar64 := (split x).1 ++ (split x).2

/-- R109: "Unpacking is the exact inverse." -/
def ofScalar (v : Scalar64) : Bytes8 := join (v.extractLsb' 32 32) (v.extractLsb' 0 32)

/-- R109, the 16-byte case: the high half from bytes 0..7, the low half from bytes 8..15. -/
def toScalarPair (x : Bytes8 × Bytes8) : Scalar64 × Scalar64 := (toScalar x.1, toScalar x.2)

/-- R109, the 16-byte case back. -/
def ofScalarPair (v : Scalar64 × Scalar64) : Bytes8 × Bytes8 := (ofScalar v.1, ofScalar v.2)

end Sys2Proof.Machine
end

