-- ==== Sys2Proof/Machine/RoundFunction.lean ====
section
/-! DEFINITION. RoundFunction: the nonlinear round-function unit (41_round_function.md R120 to R125). -/

namespace Sys2Proof.Machine

/-- R120: rotate a byte left by 2, computed on more than 8 bits and then masked. -/
def rot2 (v : Byte) : Byte :=
  (((v.setWidth 10 <<< 2) ||| (v.setWidth 10 >>> 6)) &&& 0xFF#10).setWidth 8

/-- R121: the sum is taken modulo 256. -/
def s0 (x1 x2 : Byte) : Byte := rot2 (x1 + x2)

/-- R122: as `s0` with 1 added. -/
def s1 (x1 x2 : Byte) : Byte := rot2 (x1 + x2 + 1#8)

/-- R124, the round function `f(A, B)`. -/
def roundF (a : Halfword) (b : QuarterWord) : Halfword :=
  let (a0, a1, a2, a3) := unpack32 a
  let (b0, b1) := unpack16 b
  let t1 := a1 ^^^ b0 ^^^ a0
  let t2 := a2 ^^^ b1 ^^^ a3
  let t1' := s1 t1 t2
  let t2' := s0 t2 t1'
  pack32 (s0 a0 t1') t1' t2' (s1 a3 t2')

/-- Rows 0_ to 3_ of the table of 95_test_vectors.md section 3. -/
def rot2Rows0to3 : List Byte :=
  [0x00, 0x04, 0x08, 0x0C, 0x10, 0x14, 0x18, 0x1C, 0x20, 0x24, 0x28, 0x2C, 0x30, 0x34, 0x38, 0x3C] ++
  [0x40, 0x44, 0x48, 0x4C, 0x50, 0x54, 0x58, 0x5C, 0x60, 0x64, 0x68, 0x6C, 0x70, 0x74, 0x78, 0x7C] ++
  [0x80, 0x84, 0x88, 0x8C, 0x90, 0x94, 0x98, 0x9C, 0xA0, 0xA4, 0xA8, 0xAC, 0xB0, 0xB4, 0xB8, 0xBC] ++
  [0xC0, 0xC4, 0xC8, 0xCC, 0xD0, 0xD4, 0xD8, 0xDC, 0xE0, 0xE4, 0xE8, 0xEC, 0xF0, 0xF4, 0xF8, 0xFC]

/-- Rows 4_ to 7_. -/
def rot2Rows4to7 : List Byte :=
  [0x01, 0x05, 0x09, 0x0D, 0x11, 0x15, 0x19, 0x1D, 0x21, 0x25, 0x29, 0x2D, 0x31, 0x35, 0x39, 0x3D] ++
  [0x41, 0x45, 0x49, 0x4D, 0x51, 0x55, 0x59, 0x5D, 0x61, 0x65, 0x69, 0x6D, 0x71, 0x75, 0x79, 0x7D] ++
  [0x81, 0x85, 0x89, 0x8D, 0x91, 0x95, 0x99, 0x9D, 0xA1, 0xA5, 0xA9, 0xAD, 0xB1, 0xB5, 0xB9, 0xBD] ++
  [0xC1, 0xC5, 0xC9, 0xCD, 0xD1, 0xD5, 0xD9, 0xDD, 0xE1, 0xE5, 0xE9, 0xED, 0xF1, 0xF5, 0xF9, 0xFD]

/-- Rows 8_ to B_. -/
def rot2Rows8toB : List Byte :=
  [0x02, 0x06, 0x0A, 0x0E, 0x12, 0x16, 0x1A, 0x1E, 0x22, 0x26, 0x2A, 0x2E, 0x32, 0x36, 0x3A, 0x3E] ++
  [0x42, 0x46, 0x4A, 0x4E, 0x52, 0x56, 0x5A, 0x5E, 0x62, 0x66, 0x6A, 0x6E, 0x72, 0x76, 0x7A, 0x7E] ++
  [0x82, 0x86, 0x8A, 0x8E, 0x92, 0x96, 0x9A, 0x9E, 0xA2, 0xA6, 0xAA, 0xAE, 0xB2, 0xB6, 0xBA, 0xBE] ++
  [0xC2, 0xC6, 0xCA, 0xCE, 0xD2, 0xD6, 0xDA, 0xDE, 0xE2, 0xE6, 0xEA, 0xEE, 0xF2, 0xF6, 0xFA, 0xFE]

/-- Rows C_ to F_. -/
def rot2RowsCtoF : List Byte :=
  [0x03, 0x07, 0x0B, 0x0F, 0x13, 0x17, 0x1B, 0x1F, 0x23, 0x27, 0x2B, 0x2F, 0x33, 0x37, 0x3B, 0x3F] ++
  [0x43, 0x47, 0x4B, 0x4F, 0x53, 0x57, 0x5B, 0x5F, 0x63, 0x67, 0x6B, 0x6F, 0x73, 0x77, 0x7B, 0x7F] ++
  [0x83, 0x87, 0x8B, 0x8F, 0x93, 0x97, 0x9B, 0x9F, 0xA3, 0xA7, 0xAB, 0xAF, 0xB3, 0xB7, 0xBB, 0xBF] ++
  [0xC3, 0xC7, 0xCB, 0xCF, 0xD3, 0xD7, 0xDB, 0xDF, 0xE3, 0xE7, 0xEB, 0xEF, 0xF3, 0xF7, 0xFB, 0xFF]

/-- The lookup-table form an implementation may choose (R123; 93_implementation_defined.md I1), copied
from 95_test_vectors.md section 3. The machine uses the formula `rot2`. -/
def rot2Table : List Byte := rot2Rows0to3 ++ rot2Rows4to7 ++ rot2Rows8toB ++ rot2RowsCtoF

/-- `rot2` by lookup. -/
def rot2Lookup (v : Byte) : Byte := rot2Table.getD v.toNat 0

end Sys2Proof.Machine
end

