-- ==== Sys2Proof/Machine/Operands.lean ====
section
/-! DEFINITION. Operands: the implicit operands of the commands, read from fixed registers (30_encoding.md R71; 43_feistel.md R166), and the 64-bit register views (20_memory.md R56). -/

namespace Sys2Proof.Machine

/-- SETKEY's operand: `unpack32(KEYIN_HI) ++ unpack32(KEYIN_LO)` (R147). -/
def keyOperand (s : State) : Bytes8 := join s.keyinHi s.keyinLo

/-- ENCRYPT's and DECRYPT's operand: `unpack32(DIN_HI) ++ unpack32(DIN_LO)` (R167, R171). -/
def blockOperand (s : State) : Bytes8 := join s.dinHi s.dinLo

/-- The block the host reads from DOUT: `join(DOUT_HI, DOUT_LO)` (R110). -/
def outputBlock (s : State) : Bytes8 := join s.doutHi s.doutLo

/-- `K[m]` as a half of a SCHED register: `SCHED[m >> 1]`, bits 31:16 for even `m` (R27, R166). -/
def schedQuarter (sched : Vector Halfword 8) (m : Fin 16) : QuarterWord :=
  if m.val % 2 = 0 then (sched[m.val / 2]'(by omega)).extractLsb' 16 16
  else (sched[m.val / 2]'(by omega)).extractLsb' 0 16

/-- `ks(SCHED)`: the schedule operand (R27, R28, R166). -/
def scheduleOf (sched : Vector Halfword 8) : KeySchedule where
  k := Vector.ofFn (schedQuarter sched)
  k89 := sched[4]
  k1011 := sched[5]
  k1213 := sched[6]
  k1415 := sched[7]

/-- `KEY64 = KEYIN_HI ‖ KEYIN_LO` (R56). -/
def key64 (s : State) : Scalar64 := s.keyinHi ++ s.keyinLo

/-- `DIN64 = DIN_HI ‖ DIN_LO` (R56). -/
def din64 (s : State) : Scalar64 := s.dinHi ++ s.dinLo

/-- `DOUT64 = DOUT_HI ‖ DOUT_LO` (R56). -/
def dout64 (s : State) : Scalar64 := s.doutHi ++ s.doutLo

end Sys2Proof.Machine
end

