-- ==== Sys2Proof/Machine/Feistel.lean ====
section
/-! DEFINITION. Feistel: the Feistel iterate unit (43_feistel.md R160 to R171) and the commands ENCRYPT and DECRYPT. -/

namespace Sys2Proof.Machine

/-- R161, one encryption round. -/
def encRound (x : Halves) (k : QuarterWord) : Halves := ⟨x.r, x.l ^^^ roundF x.r k⟩

/-- R163, one decryption round. -/
def decRound (x : Halves) (k : QuarterWord) : Halves := ⟨x.r ^^^ roundF x.l k, x.l⟩

/-- The rounds of encryption, `r` strictly increasing from 0 to 7 (R13, R162). -/
def roundOrder : List (Fin 16) := [0, 1, 2, 3, 4, 5, 6, 7]

/-- The eight encryption rounds (R162), round `r` with `K[r]`. -/
def encRounds (k : Vector QuarterWord 16) (x : Halves) : Halves :=
  roundOrder.foldl (fun y r => encRound y k[r]) x

/-- The eight decryption rounds (R164), `r` strictly decreasing from 7 to 0 (90_conflicts.md C2). -/
def decRounds (k : Vector QuarterWord 16) (x : Halves) : Halves :=
  roundOrder.reverse.foldl (fun y r => decRound y k[r]) x

/-- Pre-whitening of encryption (R162): `R ⊕ L` uses the whitened `L`. -/
def preWhiten (ks : KeySchedule) (x : Halves) : Halves :=
  let l := x.l ^^^ ks.k89
  let r := x.r ^^^ ks.k1011
  ⟨l, r ^^^ l⟩

/-- Post-whitening of encryption (R162): `L ⊕ R` uses the `R` before its whitening. -/
def postWhiten (ks : KeySchedule) (x : Halves) : Halves :=
  let l := x.l ^^^ x.r
  ⟨l ^^^ ks.k1415, x.r ^^^ ks.k1213⟩

/-- Decryption's first step (R164): `L ⊕ R` uses the unwhitened `R`. -/
def undoPostWhiten (ks : KeySchedule) (x : Halves) : Halves :=
  let r := x.r ^^^ ks.k1213
  let l := x.l ^^^ ks.k1415
  ⟨l ^^^ r, r⟩

/-- Decryption's last step (R164): `R ⊕ L` comes first. -/
def undoPreWhiten (ks : KeySchedule) (x : Halves) : Halves :=
  let r := x.r ^^^ x.l
  ⟨x.l ^^^ ks.k89, r ^^^ ks.k1011⟩

/-- R162, `encrypt_block(p, ks)`; the output is `join(R, L)`. -/
def encryptBlock (p : Bytes8) (ks : KeySchedule) : Bytes8 :=
  let x := postWhiten ks (encRounds ks.k (preWhiten ks ⟨(split p).1, (split p).2⟩))
  join x.r x.l

/-- R164, `decrypt_block(c, ks)`; the input is read as `(R, L)`, the output is `join(L, R)`. -/
def decryptBlock (c : Bytes8) (ks : KeySchedule) : Bytes8 :=
  let x := undoPreWhiten ks (decRounds ks.k (undoPostWhiten ks ⟨(split c).2, (split c).1⟩))
  join x.l x.r

/-- The acceptance part of ENCRYPT and DECRYPT (R167, R171). -/
def acceptCrypt (p : Pend) (s : State) : State :=
  beginCommand p { consumeDataFill s with dv := false }

/-- Presenting ENCRYPT or DECRYPT (R193): PROTO, then NOKEY, then BLKLEN, otherwise accepted (R225). -/
def presentCrypt (p : Pend) (s : State) : State :=
  unlessBusy s
    (if !s.kv then raiseCmdError .nokey s
     else if !dataFilled s then raiseCmdError .blklen s
     else acceptCrypt p s)

/-- ENCRYPT (R167). -/
def execEncrypt (s : State) : Host.Outcome State Fault Refusal := .next (presentCrypt .encrypt s)

/-- DECRYPT (R171). -/
def execDecrypt (s : State) : Host.Outcome State Fault Refusal := .next (presentCrypt .decrypt s)

/-- A result block reaches DOUT (R110, R167, R171): DV is set and the command ends. -/
def deliverBlock (b : Bytes8) (s : State) : State :=
  endCommand { s with doutHi := (split b).1, doutLo := (split b).2, dv := true }

/-- ENCRYPT's completion part (R167). -/
def completeEncrypt (s : State) : State :=
  deliverBlock (encryptBlock (blockOperand s) (scheduleOf s.sched)) s

/-- DECRYPT's completion part (R171). -/
def completeDecrypt (s : State) : State :=
  deliverBlock (decryptBlock (blockOperand s) (scheduleOf s.sched)) s

end Sys2Proof.Machine
end

