-- ==== Sys2Proof/Machine/KeySchedule.lean ====
section
/-! DEFINITION. KeySchedule: the key schedule engine (42_key_schedule.md R140 to R147) and the command SETKEY. -/

namespace Sys2Proof.Machine

/-- R140, the key-schedule combiner `FK(A, B)`. -/
def fk (a b : Halfword) : Halfword :=
  let (a0, a1, a2, a3) := unpack32 a
  let (b0, b1, b2, b3) := unpack32 b
  let t1 := a1 ^^^ a0
  let t2 := a2 ^^^ a3
  let t1' := s1 t1 (t2 ^^^ b0)
  let t2' := s0 t2 (t1' ^^^ b1)
  pack32 (s0 a0 (t1' ^^^ b2)) t1' t2' (s1 a3 (t2' ^^^ b3))

/-- R141: one iteration, a simultaneous assignment. -/
def ksStep (x : KsState) : KsState := ⟨x.b, fk x.a (x.b ^^^ x.d), x.a⟩

/-- The loop's start (R142): `(A, B) = split(key)`, `D = 0`. -/
def ksInit (key : Bytes8) : KsState := ⟨(split key).1, (split key).2, 0⟩

/-- The values of `B` after each of `n` iterations, in order (R142). -/
def ksOutputs : Nat → KsState → List Halfword
  | 0, _ => []
  | n + 1, x => (ksStep x).b :: ksOutputs n (ksStep x)

theorem ksOutputs_length (n : Nat) (x : KsState) : (ksOutputs n x).length = n := by
  induction n generalizing x with
  | zero => rfl
  | succ n ih => rw [ksOutputs, List.length_cons, ih]

/-- `B1 .. B8`, the outputs of the 8 iterations (R142, R145). -/
def fkOutputs (key : Bytes8) : Vector Halfword 8 :=
  ⟨(ksOutputs 8 (ksInit key)).toArray, by rw [List.size_toArray, ksOutputs_length]⟩

/-- R143, subkey emission: the high QuarterWord gets the even index. -/
def emit (b : Halfword) : QuarterWord × QuarterWord :=
  let (c0, c1, c2, c3) := unpack32 b
  (pack16 c0 c1, pack16 c2 c3)

/-- The subkeys the iterations emit, in order: `K[2i-2]`, `K[2i-1]` from `Bi` (R142, R143). -/
def emitAll : List Halfword → List QuarterWord
  | [] => []
  | b :: rest => (emit b).1 :: (emit b).2 :: emitAll rest

theorem emitAll_length (bs : List Halfword) : (emitAll bs).length = 2 * bs.length := by
  induction bs with
  | nil => rfl
  | cons b bs ih => simp only [emitAll, List.length_cons, ih]; omega

/-- `K[0..15]` of a key (R142). -/
def deriveSubkeys (key : Bytes8) : Vector QuarterWord 16 :=
  ⟨(emitAll (ksOutputs 8 (ksInit key))).toArray, by
    rw [List.size_toArray, emitAll_length, ksOutputs_length]⟩

/-- R144: the whitening Halfwords, from the subkeys already produced. -/
def whiten (k : Vector QuarterWord 16) : KeySchedule where
  k := k
  k89 := fromQuarterWords k[8] k[9]
  k1011 := fromQuarterWords k[10] k[11]
  k1213 := fromQuarterWords k[12] k[13]
  k1415 := fromQuarterWords k[14] k[15]

/-- R142, `derive_schedule(key)`. -/
def deriveSchedule (key : Bytes8) : KeySchedule := whiten (deriveSubkeys key)

/-- SETKEY's acceptance part (R147). -/
def acceptSetkey (s : State) : State :=
  beginCommand .setkey { consumeKeyFill s with kv := false }

/-- SETKEY, presented by a host write to CMD (R147, R193): PROTO while busy, KEYLEN while a half of
KEYIN is missing, otherwise accepted. -/
def execSetkey (s : State) : Host.Outcome State Fault Refusal :=
  .next (unlessBusy s (if keyFilled s then acceptSetkey s else raiseCmdError .keylen s))

/-- SETKEY's completion part (R147): all eight SCHED registers in the same step. -/
def completeSetkey (s : State) : State :=
  endCommand { s with sched := fkOutputs (keyOperand s), kv := true }

end Sys2Proof.Machine
end

