-- ==== Sys2Proof/Machine/Bus.lean ====
section
/-! DEFINITION. Bus: the register space and the host's accesses to it (20_memory.md R50 to R59; 44_command_interface.md R191 to R198). -/

namespace Sys2Proof.Machine

/-- The offset of CMD (R51). -/
def cmdOffset : Offset := 0x00#8

/-- The offset of STATUS (R51). -/
def statusOffset : Offset := 0x04#8

/-- The register map (R51), read at the aligned offsets; every offset it does not list is reserved. -/
def regAt (off : Offset) : Reg :=
  match off.toNat with
  | 0x00 => .cmd
  | 0x04 => .status
  | 0x08 => .keyinHi
  | 0x0C => .keyinLo
  | 0x10 => .dinHi
  | 0x14 => .dinLo
  | 0x18 => .doutHi
  | 0x1C => .doutLo
  | 0x20 => .sched 0
  | 0x24 => .sched 1
  | 0x28 => .sched 2
  | 0x2C => .sched 3
  | 0x30 => .sched 4
  | 0x34 => .sched 5
  | 0x38 => .sched 6
  | 0x3C => .sched 7
  | _ => .reserved

/-- "a 32-bit access whose offset is a multiple of 4" (R52). -/
def supportedAccess (off : Offset) (size : Nat) : Bool :=
  size == Config.accessBytes && off.toNat % Config.accessBytes == 0

/-- PEND is ENCRYPT or DECRYPT: DOUT is being produced (R191). -/
def producesDout (p : Pend) : Bool := p == .encrypt || p == .decrypt

/-- The value of a register that is not being produced (R191): CMD and the reserved offsets read 0. -/
def registerValue (r : Reg) (s : State) : Word :=
  match r with
  | .cmd => 0
  | .status => statusWord s
  | .keyinHi => s.keyinHi
  | .keyinLo => s.keyinLo
  | .dinHi => s.dinHi
  | .dinLo => s.dinLo
  | .doutHi => s.doutHi
  | .doutLo => s.doutLo
  | .sched j => s.sched[j]
  | .reserved => 0

/-- The pending command is producing this register, so a read of it is drawn (R191, R245b). -/
def beingProduced (r : Reg) (s : State) : Bool :=
  match r with
  | .doutHi => producesDout s.pend
  | .doutLo => producesDout s.pend
  | .sched _ => s.pend == .setkey
  | _ => false

/-- `BusRead` of a register (R191): the value returned, and the state, in which only the draw counter
can have moved (R59a). -/
def readRegister (r : Reg) (s : State) : Word × State :=
  if beingProduced r s then draw s else (registerValue r s, s)

/-- `BusWrite` of a register (R192): CMD presents a command (R193), STATUS clears errors (R195), KEYIN
and DIN store and set their fill flag unless busy (R196, R197), the others ignore the write (R198). -/
def writeRegister (r : Reg) (v : Word) (s : State) : Turn :=
  match r with
  | .cmd => presentCommand v s
  | .status => .done (writeStatus v s)
  | .keyinHi => .done (unlessBusy s { s with keyinHi := v, kfHi := true })
  | .keyinLo => .done (unlessBusy s { s with keyinLo := v, kfLo := true })
  | .dinHi => .done (unlessBusy s { s with dinHi := v, dfHi := true })
  | .dinLo => .done (unlessBusy s { s with dinLo := v, dfLo := true })
  | .doutHi => .done s
  | .doutLo => .done s
  | .sched _ => .done s
  | .reserved => .done s

/-- The host reads `size` bytes at `off`: a supported read is recorded and done with; any other is a
BusFault, and the host stays at it (R53; log entry 11). -/
def hostRead (off : Offset) (size : Nat) (rest : List HostOp) (s : State) : Turn :=
  if supportedAccess off size then
    let (v, t) := readRegister (regAt off) s
    .done (logRead v { t with host := rest })
  else .done (recordBusFault off size s)

/-- The host writes `v` to `off` in an access of `size` bytes (R192, R53; log entry 11). -/
def hostWrite (off : Offset) (size : Nat) (v : Word) (rest : List HostOp) (s : State) : Turn :=
  if supportedAccess off size then writeRegister (regAt off) v { s with host := rest }
  else .done (recordBusFault off size s)

/-- One iteration of `POLL` (R77): STATUS is read; the host stays at the loop while bit 0 is 1. -/
def hostPoll (rest : List HostOp) (s : State) : Turn :=
  let v := statusWord s
  .done (logRead v { s with host := if v.getLsbD 0 then s.host else rest })

/-- The host's turn (R190): its next operation. With none left the turn passes (log entry 3); after a
BusFault the host is stuck (R53; 93_implementation_defined.md I16; log entry 11). -/
def hostTurn (s : State) : Turn :=
  match s.host with
  | [] => .done s
  | op :: rest =>
    if s.faulted then .stopped .hostStuck
    else match op with
      | .read off size => hostRead off size rest s
      | .write off size v => hostWrite off size v rest s
      | .poll => hostPoll rest s

end Sys2Proof.Machine
end

