-- ==== Sys2Proof/Machine/Engine.lean ====
section
/-! DEFINITION. Engine: the engine's one step, `Complete` (44_command_interface.md R199, R200). -/

namespace Sys2Proof.Machine

/-- `Complete` (R200): the pending command's completion part, then PEND <- NONE and BUSY <- 0. It
reads the operands as they stand at this step (R199; log entry 6). With PEND = NONE, which no run
reaches while BUSY = 1 (R39), only PEND and BUSY are written (log entry 10). -/
def complete (s : State) : State :=
  match s.pend with
  | .none => endCommand s
  | .setkey => completeSetkey s
  | .encrypt => completeEncrypt s
  | .decrypt => completeDecrypt s

/-- The engine's turn: `Complete` is enabled exactly when BUSY = 1 (R190); otherwise the turn passes
(log entry 3). -/
def engineTurn (s : State) : State := if s.busy then complete s else s

end Sys2Proof.Machine
end

