-- ==== Sys2Proof/Machine/Schedule.lean ====
section
/-! DEFINITION. Schedule: who moves next (44_command_interface.md R190, R201), and how an instruction is placed for the next step. -/

namespace Sys2Proof.Machine

/-- One turn. The schedule's next slot names the agent (R190). When the schedule is used up, the engine
goes first while BUSY = 1, which is R201's fairness, and then the host (log entry 2). -/
def takeTurn (s : State) : Turn :=
  match s.schedule with
  | [] => if s.busy then .done (complete s) else hostTurn s
  | .host :: rest => hostTurn { s with schedule := rest }
  | .engine :: rest => .done (engineTurn { s with schedule := rest })
  | .reset :: rest => .done (hardwareReset { s with schedule := rest })

/-- The host's next move is to write `w` to CMD, and the host is not stuck (log entry 8). -/
def placeCommand (w : Word) (s : State) : State :=
  { s with
    faulted := false
    host := .write cmdOffset Config.accessBytes w :: s.host
    schedule := .host :: s.schedule }

/-- `n` host steps between acceptance and completion: a latency of `n` (R7, R201). -/
def latencySlots (n : Nat) : List Slot := List.replicate n .host ++ [.engine]

end Sys2Proof.Machine
end

