-- ==== Sys2Proof/Machine/Step.lean ====
section
/-! DEFINITION. Step: one atomic step of one agent (20_memory.md R60; 44_command_interface.md R190). -/

namespace Sys2Proof.Machine

/-- One turn is taken; a command the host presents in it is run by `exec`. -/
def step (s : State) : Host.Outcome State Fault Refusal :=
  match takeTurn s with
  | .command i t => exec i t
  | .done t => .next t
  | .stopped f => .fault f

/-- The state whose very next step presents the instruction with bits `w` (log entry 8). The bits
above `nbits` are 0; every command has 32 (R75). -/
def State.withFetchWord (s : State) (nbits w : Nat) : State :=
  placeCommand (BitVec.ofNat 32 (w % 2 ^ nbits)) s

end Sys2Proof.Machine
end

