-- ==== Sys2Proof/Machine/HostProgram.lean ====
section
/-! DEFINITION. HostProgram: the host assembly notation (30_encoding.md R76, R77) as host operations, and access by absolute address (00_scope.md R7). -/

namespace Sys2Proof.Machine

/-- The offset of a named register (R51, R76); `reserved` has no name and gives the first reserved
offset. -/
def regOffset : Reg → Offset
  | .cmd => 0x00#8
  | .status => 0x04#8
  | .keyinHi => 0x08#8
  | .keyinLo => 0x0C#8
  | .dinHi => 0x10#8
  | .dinLo => 0x14#8
  | .doutHi => 0x18#8
  | .doutLo => 0x1C#8
  | .sched j => BitVec.ofNat 8 (0x20 + 4 * j.val)
  | .reserved => 0x40#8

/-- `WR <reg>, <imm32>` (R76). -/
def wr (r : Reg) (v : Word) : HostOp := .write (regOffset r) Config.accessBytes v

/-- `RD <reg>` (R76); the value read goes to the read log. -/
def rd (r : Reg) : HostOp := .read (regOffset r) Config.accessBytes

/-- `KEY <k64>` (R77). -/
def keyProgram (k : Scalar64) : List HostOp :=
  [wr .keyinHi (k.extractLsb' 32 32), wr .keyinLo (k.extractLsb' 0 32)]

/-- `BLK <b64>` (R77). -/
def blkProgram (b : Scalar64) : List HostOp :=
  [wr .dinHi (b.extractLsb' 32 32), wr .dinLo (b.extractLsb' 0 32)]

/-- `GO <cmd>` (R77). -/
def goProgram (i : Instr) : List HostOp := [wr .cmd (encode i)]

/-- `RUN <cmd>` (R77). -/
def runProgram (i : Instr) : List HostOp := goProgram i ++ [.poll]

/-- `OUT` (R77). -/
def outProgram : List HostOp := [rd .doutHi, rd .doutLo]

/-- `CLR` (R77). -/
def clrProgram : List HostOp := [wr .status 0x00000008#32]

/-- The registers that have a name (R51, R76), in the order of their offsets. -/
def namedRegisters : List Reg :=
  [.cmd, .status, .keyinHi, .keyinLo, .dinHi, .dinLo, .doutHi, .doutLo,
   .sched 0, .sched 1, .sched 2, .sched 3, .sched 4, .sched 5, .sched 6, .sched 7]

/-- The observation of a run that ended: "the list of values the host read, plus the final register
values" (44_command_interface.md R204). -/
def observation (s : State) : List Word × List Word :=
  (s.readLog, namedRegisters.map fun r => registerValue r s)

/-- The offset an absolute address has in the block at `base`, where it lies in the block's 256 bytes
(R7, R50). `BASE` is an argument and no rule depends on it; log entry 12. -/
def offsetOfAddress (base addr : Nat) : Option Offset :=
  if base ≤ addr ∧ addr < base + Config.spaceBytes then some (BitVec.ofNat 8 (addr - base)) else none

/-- A host read of `size` bytes at an absolute address, where it reaches the block. -/
def readAt (base addr size : Nat) : Option HostOp :=
  match offsetOfAddress base addr with
  | some off => some (.read off size)
  | none => none

/-- A host write at an absolute address, where it reaches the block. -/
def writeAt (base addr size : Nat) (v : Word) : Option HostOp :=
  match offsetOfAddress base addr with
  | some off => some (.write off size v)
  | none => none

end Sys2Proof.Machine
end

