-- ==== Sys2Proof/Safety.lean ====
section
/-! DEFINITION. Safety: what counts as a safe run (44_command_interface.md R204), the invariants of the state (10_state.md R39), and whose turn it is. -/

namespace Sys2Proof.Machine

/-- It is the host's turn, and `rest` is the schedule after it (R190; log entry 2). -/
abbrev HostMoves (s : State) (rest : List Slot) : Prop :=
  s.schedule = .host :: rest ∨ (s.schedule = [] ∧ rest = [] ∧ s.busy = false)

/-- It is the engine's turn, its step is enabled, and `rest` is the schedule after it (R190, R201). -/
abbrev EngineMoves (s : State) (rest : List Slot) : Prop :=
  s.busy = true ∧ (s.schedule = .engine :: rest ∨ (s.schedule = [] ∧ rest = []))

/-- The next operation of the host that is able to move is `op`; `ops` are the ones after it. -/
abbrev HostIssues (s : State) (rest : List Slot) (op : HostOp) (ops : List HostOp) : Prop :=
  HostMoves s rest ∧ s.faulted = false ∧ s.host = op :: ops

/-- Every access the operation makes is supported (R52). -/
def HostOp.supported : HostOp → Bool
  | .read off size => supportedAccess off size
  | .write off size _ => supportedAccess off size
  | .poll => true

/-- "A host program's run ends when both hold: the host has executed its last line, and
STATUS.BUSY = 0" (R204). -/
abbrev RunEnded (s : State) : Prop := s.host = [] ∧ s.busy = false

/-- "A run is good when it ends with FAULTED = false" (R204). -/
abbrev GoodEnd (s : State) : Prop := RunEnded s ∧ s.faulted = false

/-- Every SCHED register is 0. -/
abbrev SchedClear (s : State) : Prop := s.sched = #v[0, 0, 0, 0, 0, 0, 0, 0]

/-- Both DOUT registers are 0. -/
abbrev DoutClear (s : State) : Prop := s.doutHi = 0 ∧ s.doutLo = 0

/-- The invariants of R39, (a) to (g), and the four more that every step needs to keep them
(DEDUCED, log entry 13). -/
structure StateInv (s : State) : Prop where
  /-- R39(a). -/
  busyIffPending : s.busy = true ↔ s.pend ≠ .none
  /-- R39(b). -/
  setkeyClearsKv : s.pend = .setkey → s.kv = false
  /-- R39(c). -/
  cryptClearsDv : s.pend = .encrypt ∨ s.pend = .decrypt → s.dv = false
  /-- R39(d). -/
  noKeyNoSched : s.kv = false → s.busy = false → SchedClear s
  /-- R39(e). -/
  noDataNoDout : s.dv = false → s.busy = false → DoutClear s
  /-- R39(f). -/
  noErrNoCode : s.err = false → s.errcode = 0
  /-- R39(g). -/
  errCodeAssigned : s.err = true → 1 ≤ s.errcode.toNat ∧ s.errcode.toNat ≤ 5
  /-- A pending ENCRYPT or DECRYPT was accepted with KV = 1 (R193). -/
  cryptHasKey : s.pend = .encrypt ∨ s.pend = .decrypt → s.kv = true
  /-- A pending SETKEY leaves DOUT as it was (R147), so R39(e) holds while it is pending too. -/
  setkeyKeepsDout : s.pend = .setkey → s.dv = false → DoutClear s
  /-- Acceptance consumed the fill flags, and no write sets them while BUSY = 1 (R35). -/
  fillConsumed : (s.pend = .setkey → s.kfHi = false ∧ s.kfLo = false) ∧
    (s.pend = .encrypt ∨ s.pend = .decrypt → s.dfHi = false ∧ s.dfLo = false)
  /-- With KV = 1, SCHED holds the complete schedule of some key (R32, R29). -/
  schedComplete : s.kv = true → ∃ key : Bytes8, s.sched = fkOutputs key

end Sys2Proof.Machine
end

