-- ==== Sys2Proof/Certificates/Slice0/Obligations.lean ====
section
/-! DEFINITION. Obligations: the statements for the provers, from the spec's numbered rules. -/

open Sys2Proof Sys2Proof.Machine

/-! ### Encoding -/

/-- 30_encoding.md section 2 and opcode_table.json: the four words, written out. -/
def Obligations.TableWordsDecodeToTheirCommands : Prop :=
  decodeTableWord 32 0x00000000 = some .nop ∧ decodeTableWord 32 0x00000001 = some .setkey ∧
  decodeTableWord 32 0x00000002 = some .encrypt ∧ decodeTableWord 32 0x00000003 = some .decrypt ∧
  decode 0b00000000000000000000000000000000#32 = .ok .nop ∧
  decode 0b00000000000000000000000000000001#32 = .ok .setkey ∧
  decode 0b00000000000000000000000000000010#32 = .ok .encrypt ∧
  decode 0b00000000000000000000000000000011#32 = .ok .decrypt

/-- R72: "A command word selects an instruction exactly when `(CMD & mask) = match`", with the match
of every row and the mask 0xFFFFFFFF; 0x4 to 0xF are reserved. -/
def Obligations.DecodeSelectsExactlyTheMatchingWord : Prop :=
  (encode .nop = 0x00000000#32 ∧ encode .setkey = 0x00000001#32 ∧
    encode .encrypt = 0x00000002#32 ∧ encode .decrypt = 0x00000003#32) ∧
  (∀ i : Instr, i.wellFormed = true → decode (encode i) = .ok i) ∧
  (∀ (i : Instr) (w : Word), decode w = .ok i ↔ w &&& 0xFFFFFFFF#32 = encode i) ∧
  (∀ w : Word, 4 ≤ w.toNat → w.toNat ≤ 15 → decode w = .error .reservedOp)

/-- R73: decoding case by case, and how a word that decodes to ILLEGAL is refused when presented. -/
def Obligations.DecodeIsTotalAndIllegalWordsAreRefused : Prop :=
  (∀ w : Word,
    (w.extractLsb' 4 28 ≠ 0 → decode w = .error .reservedBits) ∧
    (w.extractLsb' 4 28 = 0 →
      decode w = if w.extractLsb' 0 4 = 0x0#4 then .ok .nop
        else if w.extractLsb' 0 4 = 0x1#4 then .ok .setkey
        else if w.extractLsb' 0 4 = 0x2#4 then .ok .encrypt
        else if w.extractLsb' 0 4 = 0x3#4 then .ok .decrypt
        else .error .reservedOp)) ∧
  (∀ (s : State) (rest : List Slot) (w : Word) (ops : List HostOp),
    HostIssues s rest (.write 0x00#8 4 w) ops →
    (s.busy = false → (∃ e, decode w = .error e) →
      step s = .next (raiseCmdError .illegal { s with schedule := rest, host := ops })) ∧
    (s.busy = true →
      step s = .next (raiseCmdError .proto { s with schedule := rest, host := ops })))

/-- WellFormed and Decode agree: a word is legal (R74) when it decodes (R73). -/
def Obligations.WellFormedWordsAreTheOnesThatDecode : Prop :=
  ∀ w : Word, wellFormedWord w = true ↔ ∃ i : Instr, decode w = .ok i

/-- A step runs the decoded instruction: a host write of a word that decodes to `i` to CMD runs `exec`
of `i` at the state in which the access and the turn are used up (R193, R190). -/
def Obligations.StepRunsTheDecodedCommand : Prop :=
  ∀ (s : State) (rest : List Slot) (w : Word) (ops : List HostOp) (i : Instr),
    HostIssues s rest (.write 0x00#8 4 w) ops → decode w = .ok i →
    step s = exec i { s with schedule := rest, host := ops }

/-! ### Packing -/

/-- R105. -/
def Obligations.PackingFunctionsAreMutualInverses : Prop :=
  (∀ h : Halfword,
    pack32 (unpack32 h).1 (unpack32 h).2.1 (unpack32 h).2.2.1 (unpack32 h).2.2.2 = h) ∧
  (∀ b0 b1 b2 b3 : Byte, unpack32 (pack32 b0 b1 b2 b3) = (b0, b1, b2, b3)) ∧
  (∀ q : QuarterWord, pack16 (unpack16 q).1 (unpack16 q).2 = q) ∧
  (∀ b0 b1 : Byte, unpack16 (pack16 b0 b1) = (b0, b1))

/-- 40_conversion.md R100 to R104: packing is concatenation, most significant byte first. -/
def Obligations.PackingIsBigEndianConcatenation : Prop :=
  (∀ b0 b1 b2 b3 : Byte, pack32 b0 b1 b2 b3 = b0 ++ b1 ++ b2 ++ b3) ∧
  (∀ b0 b1 : Byte, pack16 b0 b1 = b0 ++ b1) ∧
  (∀ q0 q1 : QuarterWord, fromQuarterWords q0 q1 = q0 ++ q1) ∧
  (∀ h : Halfword, unpack32 h =
    (h.extractLsb' 24 8, h.extractLsb' 16 8, h.extractLsb' 8 8, h.extractLsb' 0 8))

/-- 40_conversion.md R107, R108: `split` and `join` undo each other. -/
def Obligations.SplitAndJoinAreInverses : Prop :=
  (∀ h0 h1 : Halfword, split (join h0 h1) = (h0, h1)) ∧
  (∀ x : Bytes8, join (split x).1 (split x).2 = x)

/-- 40_conversion.md R109 and 20_memory.md R56: the scalar view, its inverse, and the register pairs. -/
def Obligations.ScalarViewIsBigEndian : Prop :=
  (∀ x : Bytes8,
    toScalar x = x.b0 ++ x.b1 ++ x.b2 ++ x.b3 ++ x.b4 ++ x.b5 ++ x.b6 ++ x.b7 ∧
    ofScalar (toScalar x) = x) ∧
  (∀ v : Scalar64, toScalar (ofScalar v) = v) ∧
  (∀ x : Bytes8 × Bytes8, ofScalarPair (toScalarPair x) = x) ∧
  (∀ v : Scalar64 × Scalar64, toScalarPair (ofScalarPair v) = v) ∧
  (∀ s : State, key64 s = toScalar (keyOperand s) ∧ din64 s = toScalar (blockOperand s) ∧
    dout64 s = toScalar (outputBlock s))

/-! ### Round function -/

/-- 41_round_function.md R120: the rotation, that it is a bijection, and its stated values. -/
def Obligations.Rot2RotatesLeftByTwo : Prop :=
  (∀ v : Byte, rot2 v = v.extractLsb' 0 6 ++ v.extractLsb' 6 2 ∧ rot2 v = v.rotateLeft 2 ∧
    rot2 (rot2 (rot2 (rot2 v))) = v) ∧
  Function.Bijective rot2 ∧
  rot2 0x00#8 = 0x00#8 ∧ rot2 0xFF#8 = 0xFF#8 ∧ rot2 0x40#8 = 0x01#8 ∧ rot2 0x80#8 = 0x02#8 ∧
  rot2 0xC0#8 = 0x03#8 ∧ rot2 0x11#8 = 0x44#8

/-- 41_round_function.md R121, R122: sums modulo 256, symmetry, and S1 through S0. -/
def Obligations.ByteCombinersAddModulo256 : Prop :=
  ∀ x1 x2 : Byte,
    s0 x1 x2 = rot2 (BitVec.ofNat 8 ((x1.toNat + x2.toNat) % 256)) ∧
    s1 x1 x2 = rot2 (BitVec.ofNat 8 ((x1.toNat + x2.toNat + 1) % 256)) ∧
    s0 x1 x2 = s0 x2 x1 ∧ s1 x1 x2 = s1 x2 x1 ∧ s1 x1 x2 = s0 (x1 + 1#8) x2

/-- R123: the table of 95_test_vectors.md section 3 against the formula of R120. -/
def Obligations.LookupTableEqualsTheFormula : Prop :=
  rot2Table.length = 256 ∧ ∀ v : Byte, rot2Lookup v = rot2 v

/-- 41_round_function.md R124 on the bytes of its operands. -/
def Obligations.RoundFunctionOnBytes : Prop :=
  ∀ a0 a1 a2 a3 b0 b1 t1 t2 u1 u2 : Byte,
    t1 = a1 ^^^ b0 ^^^ a0 → t2 = a2 ^^^ b1 ^^^ a3 → u1 = s1 t1 t2 → u2 = s0 t2 u1 →
    roundF (pack32 a0 a1 a2 a3) (pack16 b0 b1) = pack32 (s0 a0 u1) u1 u2 (s1 a3 u2)

/-- 42_key_schedule.md R140 on the bytes of its operands. -/
def Obligations.KeyCombinerOnBytes : Prop :=
  ∀ a0 a1 a2 a3 b0 b1 b2 b3 t1 t2 u1 u2 : Byte,
    t1 = a1 ^^^ a0 → t2 = a2 ^^^ a3 → u1 = s1 t1 (t2 ^^^ b0) → u2 = s0 t2 (u1 ^^^ b1) →
    fk (pack32 a0 a1 a2 a3) (pack32 b0 b1 b2 b3) =
      pack32 (s0 a0 (u1 ^^^ b2)) u1 u2 (s1 a3 (u2 ^^^ b3))

/-- 41_round_function.md R125: "f(A, 0x0000) = FK(A, 0x00000000) for every A" (marked derived there). -/
def Obligations.RoundFunctionAndKeyCombinerAgreeAtZero : Prop :=
  (∀ a : Halfword, roundF a 0x0000#16 = fk a 0x00000000#32) ∧ roundF 0 0 = 0x10041044#32

/-- 95_test_vectors.md sections 4 and 5, vectors F1 to F9 and G1 to G7. -/
def Obligations.CombinerTestVectors : Prop :=
  (roundF 0x00000000#32 0x0000#16 = 0x10041044#32 ∧ roundF 0xFFFFFFFF#32 0xFFFF#16 = 0xFBFFFBEF#32 ∧
    roundF 0x00000000#32 0xFFFF#16 = 0xFFFFFBF3#32 ∧ roundF 0x80000000#32 0x0000#16 = 0x1A061864#32 ∧
    roundF 0x00000001#32 0x0000#16 = 0x20082498#32 ∧ roundF 0x01000000#32 0x0100#16 = 0x14041044#32 ∧
    roundF 0x12345678#32 0x9ABC#16 = 0x3D3D3FE2#32 ∧ roundF 0x277A71FB#32 0xDF3B#16 = 0xDFD00608#32 ∧
    roundF 0x54FAEABF#32 0xCA36#16 = 0xDD231A6B#32) ∧
  (fk 0x00000000#32 0x00000000#32 = 0x10041044#32 ∧ fk 0xFFFFFFFF#32 0xFFFFFFFF#32 = 0xFB00FF00#32 ∧
    fk 0x00000000#32 0xFFFFFFFF#32 = 0xFF00FF04#32 ∧ fk 0xFFFFFFFF#32 0x00000000#32 = 0x0C041040#32 ∧
    fk 0x00000000#32 0x00000001#32 = 0x10041048#32 ∧ fk 0x12345678#32 0x9ABCDEF0#32 = 0x0F6F04B5#32 ∧
    fk 0x01234567#32 0x89ABCDEF#32 = 0xDF3BCA36#32)

/-! ### Key schedule -/

/-- 42_key_schedule.md R141, R142: the eight outputs `B1 .. B8` obey the loop's recurrence, with
`B(-1) = A` and `B0 = B` the halves of the key and `D = 0` at the start. -/
def Obligations.ScheduleObeysTheRecurrence : Prop :=
  ∀ key : Bytes8,
    (fkOutputs key)[0] = fk (split key).1 (split key).2 ∧
    (fkOutputs key)[1] = fk (split key).2 ((fkOutputs key)[0] ^^^ (split key).1) ∧
    (fkOutputs key)[2] = fk (fkOutputs key)[0] ((fkOutputs key)[1] ^^^ (split key).2) ∧
    ∀ (j : Nat) (h : j + 3 < 8),
      (fkOutputs key)[j + 3] =
        fk ((fkOutputs key)[j + 1]) ((fkOutputs key)[j + 2] ^^^ (fkOutputs key)[j])

/-- 42_key_schedule.md R145 (marked derived there): the stored FK outputs are the derived schedule. -/
def Obligations.StoredOutputsAreTheDerivedSchedule : Prop :=
  ∀ key : Bytes8, scheduleOf (fkOutputs key) = deriveSchedule key

/-- 10_state.md R27, R28 (marked derived there): the subkeys and whitening Halfwords are views of
SCHED, for every content of SCHED. -/
def Obligations.SubkeysAreHalvesOfSched : Prop :=
  ∀ sched : Vector Halfword 8,
    (∀ j : Fin 8,
      (scheduleOf sched).k[2 * j.val] = sched[j].extractLsb' 16 16 ∧
      (scheduleOf sched).k[2 * j.val + 1] = sched[j].extractLsb' 0 16 ∧
      fromQuarterWords (scheduleOf sched).k[2 * j.val] (scheduleOf sched).k[2 * j.val + 1] = sched[j]) ∧
    whiten (scheduleOf sched).k = scheduleOf sched

/-- 95_test_vectors.md section 5: the schedules of the known-answer key and of H1 to H4. -/
def Obligations.ScheduleTestVectors : Prop :=
  fkOutputs (ofScalar 0x0123456789ABCDEF#64) =
    #v[0xDF3BCA36#32, 0xF17C1AEC#32, 0x45A5B9C7#32, 0x26EBAD25#32,
       0x8B2AECB7#32, 0xAC509D4C#32, 0x22CD479B#32, 0xA8D50CB5#32] ∧
  fkOutputs (ofScalar 0x0000000000000000#64) =
    #v[0x10041044#32, 0x51440119#32, 0xE5680281#32, 0xBD0CE1F8#32,
       0xF3F709A9#32, 0x2707C69F#32, 0x3BFC5E8F#32, 0x13CA68BB#32] ∧
  fkOutputs (ofScalar 0xFFFFFFFFFFFFFFFF#64) =
    #v[0xFB00FF00#32, 0x4C14AF41#32, 0xB121276A#32, 0xEDF713EE#32,
       0xEBF58D36#32, 0x3A0B7378#32, 0xE42E365F#32, 0x76D8382B#32] ∧
  fkOutputs (ofScalar 0x0000000000000001#64) =
    #v[0x10041048#32, 0x614835FD#32, 0x70392790#32, 0x774BF878#32,
       0x4BAF8D66#32, 0x03E3D76A#32, 0x221296AF#32, 0x43D6A053#32] ∧
  fkOutputs (ofScalar 0x8000000000000000#64) =
    #v[0x1A061864#32, 0xD96EA11B#32, 0x130B8704#32, 0x2CAD6994#32,
       0x243E024A#32, 0x8331047F#32, 0x2608738F#32, 0x11B00405#32]

/-! ### Feistel unit -/

/-- 43_feistel.md R161, R163: one round each way, and each undoes the other. -/
def Obligations.RoundsUndoEachOther : Prop :=
  ∀ (l r : Halfword) (k : QuarterWord),
    encRound ⟨l, r⟩ k = ⟨r, l ^^^ roundF r k⟩ ∧ decRound ⟨l, r⟩ k = ⟨r ^^^ roundF l k, l⟩ ∧
    decRound (encRound ⟨l, r⟩ k) k = ⟨l, r⟩ ∧ encRound (decRound ⟨l, r⟩ k) k = ⟨l, r⟩

/-- R165: the correctness contract for every derived schedule. That it holds for every schedule value
too is marked derived there. -/
def Obligations.DecryptUndoesEncrypt : Prop :=
  (∀ (key p : Bytes8),
    decryptBlock (encryptBlock p (deriveSchedule key)) (deriveSchedule key) = p) ∧
  (∀ (ks : KeySchedule) (p : Bytes8), decryptBlock (encryptBlock p ks) ks = p)

/-- 43_feistel.md R169 (marked derived there): both directions are permutations of the blocks. -/
def Obligations.BothDirectionsArePermutations : Prop :=
  ∀ ks : KeySchedule,
    Function.Bijective (fun p => encryptBlock p ks) ∧
    Function.Bijective (fun c => decryptBlock c ks) ∧
    ∀ c : Bytes8, encryptBlock (decryptBlock c ks) ks = c

/-- 43_feistel.md R170 (marked derived there): flipping one bit of the plaintext changes the
ciphertext, for every key. -/
def Obligations.FlippingAPlaintextBitChangesTheCiphertext : Prop :=
  ∀ (key p : Bytes8) (i : Fin 64),
    encryptBlock (ofScalar (toScalar p ^^^ BitVec.twoPow 64 i.val)) (deriveSchedule key) ≠
      encryptBlock p (deriveSchedule key)

/-- 43_feistel.md R168 (marked derived there): the rounds read only `K[0..7]`; `K[8..15]` enter only
as whitening values. -/
def Obligations.RoundsReadOnlyTheFirstEightSubkeys : Prop :=
  ∀ (ks ks' : KeySchedule) (p : Bytes8),
    (∀ (j : Nat) (h : j < 8), ks.k[j] = ks'.k[j]) →
    ks.k89 = ks'.k89 → ks.k1011 = ks'.k1011 → ks.k1213 = ks'.k1213 → ks.k1415 = ks'.k1415 →
    encryptBlock p ks = encryptBlock p ks' ∧ decryptBlock p ks = decryptBlock p ks'

/-- 95_test_vectors.md section 6, vectors X1 to X10, both columns. -/
def Obligations.BlockTestVectors : Prop :=
  let row := fun (key p e d : Scalar64) =>
    toScalar (encryptBlock (ofScalar p) (deriveSchedule (ofScalar key))) = e ∧
    toScalar (decryptBlock (ofScalar p) (deriveSchedule (ofScalar key))) = d
  row 0x0123456789ABCDEF 0x0000000000000000 0xCEEF2C86F2490752 0xF320E3EEE232A3E5 ∧
  row 0x0123456789ABCDEF 0xCEEF2C86F2490752 0xAE7922B5853A0EEF 0x0000000000000000 ∧
  row 0x0123456789ABCDEF 0x0000000000000001 0xEB600147AE16321D 0xD2C2CD36AC8EB7CB ∧
  row 0x0123456789ABCDEF 0x8000000000000000 0x2BA25BADB74B4572 0xBAF69130CAD930C2 ∧
  row 0x0123456789ABCDEF 0x0123456789ABCDEF 0xBE3D82A6BFB8F8A7 0x04C81AD750EF8BC6 ∧
  row 0x0000000000000000 0x0000000000000000 0xC1F5BB7A89A83861 0xC1973B096F0A6FB3 ∧
  row 0xFFFFFFFFFFFFFFFF 0xFFFFFFFFFFFFFFFF 0x6B0E43762684BBAA 0x8B0831D294958BC2 ∧
  row 0x0000000000000000 0xFFFFFFFFFFFFFFFF 0x8FB2605A3362CD68 0x6B4A2AEFF3C9F0A3 ∧
  row 0xFFFFFFFFFFFFFFFF 0x0000000000000000 0x1B49D1FC2C18C32C 0xFCB8AA4B18386690 ∧
  row 0x0000000000000001 0x0000000000000000 0x350D872E0165288F 0x8329B7E682E1F223

/-! ### Commands -/

/-- R194: NOP changes no state element; PROTO while busy; OP = 0 with RSV ≠ 0 is not NOP. -/
def Obligations.NopChangesNothing : Prop :=
  (∀ s : State, s.busy = false → exec .nop s = .next s) ∧
  (∀ s : State, s.busy = true → exec .nop s = .next (raiseCmdError .proto s)) ∧
  decode 0x00000000#32 = .ok .nop ∧
  (∀ w : Word, w.extractLsb' 0 4 = 0 → w.extractLsb' 4 28 ≠ 0 → ∃ e, decode w = .error e)

/-- 42_key_schedule.md R147: SETKEY is accepted, and the engine's step after it delivers the schedule
of the key in KEYIN. Both next states are written out, so everything else is unchanged. -/
def Obligations.SetkeyDerivesAndLoadsTheSchedule : Prop :=
  ∀ s : State, s.busy = false → s.kfHi = true → s.kfLo = true →
    ∃ a : State, exec .setkey s = .next a ∧
      a = { s with kfHi := false, kfLo := false, kv := false, pend := .setkey, busy := true } ∧
      ∀ rest : List Slot, EngineMoves a rest →
        step a = .next { a with
          schedule := rest
          sched := fkOutputs (join s.keyinHi s.keyinLo)
          kv := true, pend := .none, busy := false }

/-- 43_feistel.md R167: ENCRYPT is accepted, and the engine's step after it delivers the ciphertext of
the block in DIN under the schedule in SCHED. -/
def Obligations.EncryptDeliversTheCiphertext : Prop :=
  ∀ s : State, s.busy = false → s.kv = true → s.dfHi = true → s.dfLo = true →
    ∃ a : State, exec .encrypt s = .next a ∧
      a = { s with dfHi := false, dfLo := false, dv := false, pend := .encrypt, busy := true } ∧
      ∀ (rest : List Slot) (c : Bytes8), EngineMoves a rest →
        c = encryptBlock (join s.dinHi s.dinLo) (scheduleOf s.sched) →
        step a = .next { a with
          schedule := rest
          doutHi := pack32 c.b0 c.b1 c.b2 c.b3
          doutLo := pack32 c.b4 c.b5 c.b6 c.b7
          dv := true, pend := .none, busy := false }

/-- 43_feistel.md R171: DECRYPT is accepted, and the engine's step after it delivers the plaintext. -/
def Obligations.DecryptDeliversThePlaintext : Prop :=
  ∀ s : State, s.busy = false → s.kv = true → s.dfHi = true → s.dfLo = true →
    ∃ a : State, exec .decrypt s = .next a ∧
      a = { s with dfHi := false, dfLo := false, dv := false, pend := .decrypt, busy := true } ∧
      ∀ (rest : List Slot) (p : Bytes8), EngineMoves a rest →
        p = decryptBlock (join s.dinHi s.dinLo) (scheduleOf s.sched) →
        step a = .next { a with
          schedule := rest
          doutHi := pack32 p.b0 p.b1 p.b2 p.b3
          doutLo := pack32 p.b4 p.b5 p.b6 p.b7
          dv := true, pend := .none, busy := false }

/-- 44_command_interface.md R193, 60_exceptions.md R225: the refusals, in their order of priority. -/
def Obligations.RefusalsFollowThePriority : Prop :=
  ∀ s : State,
    (s.busy = true → ∀ i : Instr, exec i s = .next (raiseCmdError .proto s)) ∧
    (s.busy = false →
      (s.kfHi = false ∨ s.kfLo = false → exec .setkey s = .next (raiseCmdError .keylen s)) ∧
      (s.kv = false →
        exec .encrypt s = .next (raiseCmdError .nokey s) ∧
        exec .decrypt s = .next (raiseCmdError .nokey s)) ∧
      (s.kv = true → s.dfHi = false ∨ s.dfLo = false →
        exec .encrypt s = .next (raiseCmdError .blklen s) ∧
        exec .decrypt s = .next (raiseCmdError .blklen s)))

/-- 60_exceptions.md R223: the recording of an error; the codes are those of R221. -/
def Obligations.RaiseRecordsOnlyTheFirstError : Prop :=
  (∀ (e : CmdError) (s : State),
    (s.err = false → raiseCmdError e s = { s with err := true, errcode := errorCode e }) ∧
    (s.err = true → raiseCmdError e s = s)) ∧
  errorCode .illegal = 1#4 ∧ errorCode .proto = 2#4 ∧ errorCode .nokey = 3#4 ∧
  errorCode .keylen = 4#4 ∧ errorCode .blklen = 5#4

/-- The frame of the four commands' presentation (R147, R167, R171, R194, R224): no data register, no
SCHED register, no output and nothing of the run changes; SETKEY leaves DV and the DIN fill flags,
ENCRYPT and DECRYPT leave KV and the KEYIN fill flags, NOP leaves all but the error. -/
def Obligations.PresentedCommandsFrame : Prop :=
  ∀ (i : Instr) (s t : State), exec i s = .next t →
    t = { s with
      busy := t.busy, kv := t.kv, dv := t.dv, err := t.err, errcode := t.errcode
      kfHi := t.kfHi, kfLo := t.kfLo, dfHi := t.dfHi, dfLo := t.dfLo, pend := t.pend } ∧
    (i = .nop → t = { s with err := t.err, errcode := t.errcode }) ∧
    (i = .setkey → t.dv = s.dv ∧ t.dfHi = s.dfHi ∧ t.dfLo = s.dfLo) ∧
    (i = .encrypt ∨ i = .decrypt → t.kv = s.kv ∧ t.kfHi = s.kfHi ∧ t.kfLo = s.kfLo) ∧
    (t.err = s.err ∧ t.errcode = s.errcode ∨ t = { s with err := t.err, errcode := t.errcode })

/-- R200 and 44_command_interface.md R202: the engine's step always completes, and what it leaves
unchanged: KEYIN, DIN, the fill flags, ERR and ERRCODE, nothing read or drawn; SETKEY leaves DOUT and
DV, ENCRYPT and DECRYPT leave SCHED and KV. -/
def Obligations.CompletionFrame : Prop :=
  ∀ (s : State) (rest : List Slot), EngineMoves s rest →
    ∃ t : State, step s = .next t ∧ t.busy = false ∧ t.pend = .none ∧
      t = { s with
        schedule := rest, busy := false, pend := .none
        sched := t.sched, kv := t.kv, doutHi := t.doutHi, doutLo := t.doutLo, dv := t.dv } ∧
      (s.pend = .setkey → t.kv = true ∧ t.dv = s.dv ∧ t.doutHi = s.doutHi ∧ t.doutLo = s.doutLo) ∧
      (s.pend = .encrypt ∨ s.pend = .decrypt →
        t.dv = true ∧ t.kv = s.kv ∧ t.sched = s.sched)

/-- R227: with ERR = 1 every command is checked and accepted as with ERR = 0: the two runs agree on
everything but ERR and ERRCODE. -/
def Obligations.RecordedErrorDoesNotBlockCommands : Prop :=
  ∀ (i : Instr) (s t u : State) (c : BitVec 4),
    exec i { s with err := false, errcode := 0 } = .next t →
    exec i { s with err := true, errcode := c } = .next u →
    u = { t with err := u.err, errcode := u.errcode } ∧ u.err = true ∧ u.errcode = c

/-- 43_feistel.md R171 corner case 1, at the registers: encrypting DIN, copying DOUT to DIN half by
half, and decrypting gives the first DIN back in DOUT, for every schedule in SCHED. -/
def Obligations.CopyingDoutToDinAndDecryptingRestoresTheBlock : Prop :=
  ∀ s : State, s.busy = false → s.kv = true → s.dfHi = true → s.dfLo = true →
    ∃ a b : State, exec .encrypt s = .next a ∧
      exec .decrypt { complete a with
        dinHi := (complete a).doutHi, dinLo := (complete a).doutLo
        dfHi := true, dfLo := true } = .next b ∧
      (complete b).doutHi = s.dinHi ∧ (complete b).doutLo = s.dinLo ∧
      (complete b).dv = true ∧ (complete b).busy = false ∧ (complete b).sched = s.sched

/-! ### Host accesses -/

/-- 10_state.md R30, R36: the fields of STATUS as the host reads it. -/
def Obligations.StatusWordHasTheStatedFields : Prop :=
  ∀ s : State,
    (statusWord s).getLsbD 0 = s.busy ∧ (statusWord s).getLsbD 1 = s.kv ∧
    (statusWord s).getLsbD 2 = s.dv ∧ (statusWord s).getLsbD 3 = s.err ∧
    (statusWord s).extractLsb' 4 4 = s.errcode ∧
    (statusWord s).getLsbD 8 = s.kfHi ∧ (statusWord s).getLsbD 9 = s.kfLo ∧
    (statusWord s).getLsbD 10 = s.dfHi ∧ (statusWord s).getLsbD 11 = s.dfLo ∧
    (statusWord s).extractLsb' 12 20 = 0

/-- R191: what every supported read returns, and that it changes no register: only the access and the
turn are used up, the value is recorded, and the draw counter moves when the value is drawn. The log
and the counter are the model's own (log entries 4 and 5). -/
def Obligations.SupportedReadsReturnTheRegister : Prop :=
  ∀ (s : State) (rest : List Slot) (off : Offset) (ops : List HostOp),
    HostIssues s rest (.read off 4) ops → off.toNat % 4 = 0 →
    ∃ (v : Word) (d : Nat),
      step s = .next { s with
        schedule := rest, host := ops, readLog := s.readLog ++ [v], draws := d } ∧
      (off = 0x00#8 → v = 0 ∧ d = s.draws) ∧
      (off = 0x04#8 → v = statusWord s ∧ d = s.draws) ∧
      (off = 0x08#8 → v = s.keyinHi ∧ d = s.draws) ∧
      (off = 0x0C#8 → v = s.keyinLo ∧ d = s.draws) ∧
      (off = 0x10#8 → v = s.dinHi ∧ d = s.draws) ∧
      (off = 0x14#8 → v = s.dinLo ∧ d = s.draws) ∧
      (off = 0x18#8 ∨ off = 0x1C#8 → s.pend = .encrypt ∨ s.pend = .decrypt →
        v = Config.draw32 s.draws ∧ d = s.draws + 1) ∧
      (off = 0x18#8 → s.pend ≠ .encrypt → s.pend ≠ .decrypt → v = s.doutHi ∧ d = s.draws) ∧
      (off = 0x1C#8 → s.pend ≠ .encrypt → s.pend ≠ .decrypt → v = s.doutLo ∧ d = s.draws) ∧
      (∀ j : Fin 8, off.toNat = 0x20 + 4 * j.val →
        (s.pend = .setkey → v = Config.draw32 s.draws ∧ d = s.draws + 1) ∧
        (s.pend ≠ .setkey → v = s.sched[j] ∧ d = s.draws)) ∧
      (0x40 ≤ off.toNat → v = 0 ∧ d = s.draws)

/-- 30_encoding.md R77: one iteration of POLL reads STATUS, and the host stays at it while BUSY = 1. -/
def Obligations.PollRepeatsWhileBusy : Prop :=
  ∀ (s : State) (rest : List Slot) (ops : List HostOp), HostIssues s rest .poll ops →
    step s = .next { s with
      schedule := rest
      host := if s.busy then .poll :: ops else ops
      readLog := s.readLog ++ [statusWord s] }

/-- 20_memory.md R53, 60_exceptions.md R228: an unsupported access sets FAULTED and leaves every other
element unchanged, in whatever state; that the host stays at the access is the model's (log entry 11). -/
def Obligations.UnsupportedAccessesAreBusFaults : Prop :=
  ∀ (s : State) (rest : List Slot) (off : Offset) (size : Nat) (v : Word) (ops : List HostOp),
    size ≠ 4 ∨ off.toNat % 4 ≠ 0 →
    HostIssues s rest (.read off size) ops ∨ HostIssues s rest (.write off size v) ops →
    step s = .next { s with schedule := rest, faulted := true }

/-- 93_implementation_defined.md I16: after a BusFault the host makes no further step, and the engine
and reset still move; no step of any agent clears FAULTED (10_state.md R41). That the stuck host's turn
is a fault is the model's (log entry 11). -/
def Obligations.FaultedHostIsStuck : Prop :=
  (∀ (s : State) (rest : List Slot), HostMoves s rest → s.faulted = true → s.host ≠ [] →
    step s = .fault .hostStuck) ∧
  (∀ (s : State) (rest : List Slot), EngineMoves s rest ∨ s.schedule = .reset :: rest →
    ∃ t, step s = .next t ∧ t.faulted = s.faulted) ∧
  (∀ s t : State, step s = .next t → s.faulted = true → t.faulted = true)

/-- R195: the status write, in any state. -/
def Obligations.StatusWriteClearsTheError : Prop :=
  ∀ (s : State) (rest : List Slot) (v : Word) (ops : List HostOp),
    HostIssues s rest (.write 0x04#8 4 v) ops →
    (v.getLsbD 3 = true →
      step s = .next { s with schedule := rest, host := ops, err := false, errcode := 0 }) ∧
    (v.getLsbD 3 = false → step s = .next { s with schedule := rest, host := ops })

/-- R196: the key input write. -/
def Obligations.KeyInputWriteStoresOrIsRefused : Prop :=
  ∀ (s : State) (rest : List Slot) (off : Offset) (v : Word) (ops : List HostOp),
    HostIssues s rest (.write off 4 v) ops →
    (s.busy = true → off = 0x08#8 ∨ off = 0x0C#8 →
      step s = .next (raiseCmdError .proto { s with schedule := rest, host := ops })) ∧
    (s.busy = false → off = 0x08#8 →
      step s = .next { s with schedule := rest, host := ops, keyinHi := v, kfHi := true }) ∧
    (s.busy = false → off = 0x0C#8 →
      step s = .next { s with schedule := rest, host := ops, keyinLo := v, kfLo := true })

/-- R197: the data input write. -/
def Obligations.DataInputWriteStoresOrIsRefused : Prop :=
  ∀ (s : State) (rest : List Slot) (off : Offset) (v : Word) (ops : List HostOp),
    HostIssues s rest (.write off 4 v) ops →
    (s.busy = true → off = 0x10#8 ∨ off = 0x14#8 →
      step s = .next (raiseCmdError .proto { s with schedule := rest, host := ops })) ∧
    (s.busy = false → off = 0x10#8 →
      step s = .next { s with schedule := rest, host := ops, dinHi := v, dfHi := true }) ∧
    (s.busy = false → off = 0x14#8 →
      step s = .next { s with schedule := rest, host := ops, dinLo := v, dfLo := true })

/-- R198: writes to DOUT, SCHED and the reserved offsets change no state and raise no error. -/
def Obligations.ReadOnlyAndReservedWritesAreIgnored : Prop :=
  ∀ (s : State) (rest : List Slot) (off : Offset) (v : Word) (ops : List HostOp),
    HostIssues s rest (.write off 4 v) ops → off.toNat % 4 = 0 → 0x18 ≤ off.toNat →
    step s = .next { s with schedule := rest, host := ops }

/-- 20_memory.md R51: the register map is one to one on the 16 named offsets; the other 48 aligned
offsets are all reserved. -/
def Obligations.RegisterMapIsOneToOneOnTheNamedOffsets : Prop :=
  (∀ r : Reg, regAt (regOffset r) = r ∧ (regOffset r).toNat % 4 = 0) ∧
  (∀ off : Offset, off.toNat % 4 = 0 →
    (off.toNat < 0x40 → regOffset (regAt off) = off) ∧ (0x40 ≤ off.toNat → regAt off = .reserved))

/-- 00_scope.md R7, 20_memory.md R50: for every BASE, the 256 addresses from it reach their offsets and
no other address reaches the block (log entry 12). -/
def Obligations.AddressesReachTheirOffsetForEveryBase : Prop :=
  ∀ base : Nat,
    (∀ off : Offset, offsetOfAddress base (base + off.toNat) = some off) ∧
    (∀ addr : Nat, addr < base ∨ base + 256 ≤ addr → offsetOfAddress base addr = none)

/-! ### Reset -/

/-- R42: the value of every element after reset. -/
def Obligations.ResetHoldsTheStatedValues : Prop :=
  State.reset.keyinHi = 0 ∧ State.reset.keyinLo = 0 ∧ State.reset.dinHi = 0 ∧ State.reset.dinLo = 0 ∧
  State.reset.doutHi = 0 ∧ State.reset.doutLo = 0 ∧ (∀ j : Fin 8, State.reset.sched[j] = 0) ∧
  State.reset.busy = false ∧ State.reset.kv = false ∧ State.reset.dv = false ∧
  State.reset.err = false ∧ State.reset.errcode = 0 ∧ State.reset.kfHi = false ∧
  State.reset.kfLo = false ∧ State.reset.dfHi = false ∧ State.reset.dfLo = false ∧
  State.reset.pend = .none ∧ State.reset.faulted = false ∧ statusWord State.reset = 0x00000000#32 ∧
  (∀ s : State, (hardwareReset s).faulted = s.faulted)

/-- 70_reset_and_hazards.md R240, R241: a reset event takes every hardware element to its reset value
from any state, a pending command with it, and leaves FAULTED; the run's own fields stay. -/
def Obligations.ResetEventRestoresEveryHardwareElement : Prop :=
  ∀ (s : State) (rest : List Slot), s.schedule = .reset :: rest →
    ∃ t : State, step s = .next t ∧
      t = { State.reset with
        faulted := s.faulted, schedule := rest
        host := s.host, readLog := s.readLog, draws := s.draws } ∧
      statusWord t = 0 ∧ t.pend = .none

/-! ### The whole machine -/

/-- 10_state.md R39: the invariants hold at reset. -/
def Obligations.ResetMeetsTheInvariants : Prop := StateInv State.reset

/-- 10_state.md R39 (marked derived there): every step of every agent keeps the invariants. -/
def Obligations.EveryStepKeepsTheInvariants : Prop :=
  ∀ s t : State, StateInv s → step s = .next t → StateInv t

/-- 10_state.md R29(b), R25, R26 and 70_reset_and_hazards.md R246: SCHED changes only when the engine
completes a SETKEY or at reset, and DOUT only when it completes an ENCRYPT or DECRYPT or at reset. -/
def Obligations.ResultsChangeOnlyAtCompletionOrReset : Prop :=
  ∀ s t : State, step s = .next t →
    (t.sched ≠ s.sched →
      (∃ rest, s.schedule = .reset :: rest) ∨ (∃ rest, EngineMoves s rest) ∧ s.pend = .setkey) ∧
    (t.doutHi ≠ s.doutHi ∨ t.doutLo ≠ s.doutLo →
      (∃ rest, s.schedule = .reset :: rest) ∨
        (∃ rest, EngineMoves s rest) ∧ (s.pend = .encrypt ∨ s.pend = .decrypt))

/-- 10_state.md R21, R23, R24: KEYIN and DIN change only by a host write to the register while
BUSY = 0, or at reset. -/
def Obligations.InputsChangeOnlyByIdleHostWritesOrReset : Prop :=
  ∀ s t : State, step s = .next t →
    (t.keyinHi ≠ s.keyinHi ∨ t.keyinLo ≠ s.keyinLo ∨ t.dinHi ≠ s.dinHi ∨ t.dinLo ≠ s.dinLo) →
    (∃ rest, s.schedule = .reset :: rest) ∨
      (s.busy = false ∧ ∃ rest off v ops, HostIssues s rest (.write off 4 v) ops ∧
        (off = 0x08#8 ∨ off = 0x0C#8 ∨ off = 0x10#8 ∨ off = 0x14#8))

/-- R242: KV goes from 1 to 0 only at reset or when a SETKEY is accepted. -/
def Obligations.KeyValidIsLostOnlyByResetOrSetkey : Prop :=
  ∀ s t : State, step s = .next t → s.kv = true → t.kv = false →
    (∃ rest, s.schedule = .reset :: rest) ∨
      (s.busy = false ∧ t.pend = .setkey ∧ t.busy = true ∧
        ∃ rest ops, HostIssues s rest (.write 0x00#8 4 0x00000001#32) ops)

/-- 44_command_interface.md R199, 20_memory.md R63: while a command stays pending, no step changes its
operands, the pending command, a result register, a valid flag or a fill flag. -/
def Obligations.PendingCommandKeepsItsOperands : Prop :=
  ∀ s t : State, step s = .next t → s.busy = true → t.busy = true →
    t = { s with
      err := t.err, errcode := t.errcode, faulted := t.faulted
      host := t.host, schedule := t.schedule, readLog := t.readLog, draws := t.draws }

/-- 44_command_interface.md R201, 70_reset_and_hazards.md R249: the result does not depend on the
latency. However many host turns stand between acceptance and completion, and whatever supported
operations the host makes in them, the completion gives the registers that an immediate one gives. -/
def Obligations.ResultDoesNotDependOnTheLatency : Prop :=
  ∀ (n : Nat) (s : State) (rest : List Slot),
    s.busy = true → s.faulted = false → (∀ op ∈ s.host, op.supported = true) →
    s.schedule = latencySlots n ++ rest →
    ∃ t : State, Host.Core.run Sys2Proof.core (n + 1) s = .next t ∧
      t = { complete s with
        err := t.err, errcode := t.errcode
        host := t.host, schedule := rest, readLog := t.readLog, draws := t.draws }

/-- 44_command_interface.md R201, R204: every accepted command completes and every run ends. A run
whose host makes only supported accesses ends well, within a bound that its own length gives. The
finite schedule and the engine's turn after it are the model's form of weak fairness (log entry 2). -/
def Obligations.EveryRunEndsWell : Prop :=
  ∀ s : State, s.faulted = false → (∀ op ∈ s.host, op.supported = true) →
    ∃ (k : Nat) (t : State), k ≤ s.schedule.length + 2 * s.host.length + 1 ∧
      Host.Core.run Sys2Proof.core k s = .next t ∧ GoodEnd t

/-- 44_command_interface.md R190: an agent with nothing to do changes nothing: the engine while
BUSY = 0, and the host after its last operation (log entry 3). -/
def Obligations.AnAgentWithNothingToDoChangesNothing : Prop :=
  (∀ (s : State) (rest : List Slot), s.busy = false → s.schedule = .engine :: rest →
    step s = .next { s with schedule := rest }) ∧
  (∀ (s : State) (rest : List Slot), HostMoves s rest → s.host = [] →
    step s = .next { s with schedule := rest })

/-- 10_state.md R20, 44_command_interface.md R190: what a turn does to the block depends only on the
block and, on the host's turn, on the operation: not on the rest of the host's program, the rest of
the schedule, the values read before or the draw counter (log entry 1). -/
def Obligations.TheRunAroundTheBlockDoesNotReachIt : Prop :=
  ∀ (s u : State) (rest rest' : List Slot), s.toBlockState = u.toBlockState →
    (∀ (op : HostOp) (ops ops' : List HostOp),
      HostIssues s rest op ops → HostIssues u rest' op ops' →
      ∃ t v, step s = .next t ∧ step u = .next v ∧ t.toBlockState = v.toBlockState) ∧
    (EngineMoves s rest → EngineMoves u rest' →
      ∃ t v, step s = .next t ∧ step u = .next v ∧ t.toBlockState = v.toBlockState) ∧
    (s.schedule = .reset :: rest → u.schedule = .reset :: rest' →
      ∃ t v, step s = .next t ∧ step u = .next v ∧ t.toBlockState = v.toBlockState)
end

