-- ==== Sys2Proof/Laws/Packing.lean ====
section
/-! SUPPORT. Laws/Packing: the bits of a packed value (40_conversion.md R100, R102). -/

namespace Sys2Proof.Laws

open Sys2Proof.Machine

/-- Bit `i` of a packed Halfword: byte 3 holds the low bits, byte 0 the high ones. -/
theorem getLsbD_pack32 (b0 b1 b2 b3 : Byte) {i : Nat} (hi : i < 32) :
    (pack32 b0 b1 b2 b3).getLsbD i =
      if i < 8 then b3.getLsbD i else if i < 16 then b2.getLsbD (i - 8)
      else if i < 24 then b1.getLsbD (i - 16) else b0.getLsbD (i - 24) := by
  simp only [pack32, BitVec.getLsbD_or, BitVec.getLsbD_shiftLeft, BitVec.getLsbD_setWidth]
  interval_cases i <;> simp

/-- Bit `i` of a packed QuarterWord. -/
theorem getLsbD_pack16 (b0 b1 : Byte) {i : Nat} (hi : i < 16) :
    (pack16 b0 b1).getLsbD i = if i < 8 then b1.getLsbD i else b0.getLsbD (i - 8) := by
  simp only [pack16, BitVec.getLsbD_or, BitVec.getLsbD_shiftLeft, BitVec.getLsbD_setWidth]
  interval_cases i <;> simp

end Sys2Proof.Laws
end

