-- ==== Sys2Proof/Laws/PerInstr.lean ====
section
/-! SUPPORT. Laws/PerInstr: what holds of every command as syntax, one lemma per constructor. -/

namespace Sys2Proof.Laws

/-- The command's word is a legal command word (R74), and only its OP field carries anything (R70). -/
def EncodedWord.Statement (i : Instr) : Prop :=
  i.wellFormed = true ∧ wellFormedWord (encode i) = true ∧
    (encode i).toNat = (opCode i).toNat ∧ (opCode i).toNat < 4

theorem EncodedWord.nop : EncodedWord.Statement .nop := by unfold EncodedWord.Statement; decide

theorem EncodedWord.setkey : EncodedWord.Statement .setkey := by
  unfold EncodedWord.Statement; decide

theorem EncodedWord.encrypt : EncodedWord.Statement .encrypt := by
  unfold EncodedWord.Statement; decide

theorem EncodedWord.decrypt : EncodedWord.Statement .decrypt := by
  unfold EncodedWord.Statement; decide

end Sys2Proof.Laws
end

