-- ==== Sys2Proof/Laws/State.lean ====
section
/-! SUPPORT. Laws/State: one lemma per field of State per named update of Machine/Ops.lean and Machine/Flags.lean, and the block state beside its run. -/

namespace Sys2Proof.Laws

open Sys2Proof.Machine

/-! ### clearError -/

@[simp] theorem clearError_keyinHi (s : State) : (clearError s).keyinHi = s.keyinHi := rfl
@[simp] theorem clearError_keyinLo (s : State) : (clearError s).keyinLo = s.keyinLo := rfl
@[simp] theorem clearError_dinHi (s : State) : (clearError s).dinHi = s.dinHi := rfl
@[simp] theorem clearError_dinLo (s : State) : (clearError s).dinLo = s.dinLo := rfl
@[simp] theorem clearError_doutHi (s : State) : (clearError s).doutHi = s.doutHi := rfl
@[simp] theorem clearError_doutLo (s : State) : (clearError s).doutLo = s.doutLo := rfl
@[simp] theorem clearError_sched (s : State) : (clearError s).sched = s.sched := rfl
@[simp] theorem clearError_busy (s : State) : (clearError s).busy = s.busy := rfl
@[simp] theorem clearError_kv (s : State) : (clearError s).kv = s.kv := rfl
@[simp] theorem clearError_dv (s : State) : (clearError s).dv = s.dv := rfl
@[simp] theorem clearError_err (s : State) : (clearError s).err = false := rfl
@[simp] theorem clearError_errcode (s : State) : (clearError s).errcode = 0 := rfl
@[simp] theorem clearError_kfHi (s : State) : (clearError s).kfHi = s.kfHi := rfl
@[simp] theorem clearError_kfLo (s : State) : (clearError s).kfLo = s.kfLo := rfl
@[simp] theorem clearError_dfHi (s : State) : (clearError s).dfHi = s.dfHi := rfl
@[simp] theorem clearError_dfLo (s : State) : (clearError s).dfLo = s.dfLo := rfl
@[simp] theorem clearError_pend (s : State) : (clearError s).pend = s.pend := rfl
@[simp] theorem clearError_faulted (s : State) : (clearError s).faulted = s.faulted := rfl
@[simp] theorem clearError_host (s : State) : (clearError s).host = s.host := rfl
@[simp] theorem clearError_schedule (s : State) : (clearError s).schedule = s.schedule := rfl
@[simp] theorem clearError_readLog (s : State) : (clearError s).readLog = s.readLog := rfl
@[simp] theorem clearError_draws (s : State) : (clearError s).draws = s.draws := rfl

/-! ### beginCommand -/

@[simp] theorem beginCommand_keyinHi (p : Pend) (s : State) : (beginCommand p s).keyinHi = s.keyinHi := rfl
@[simp] theorem beginCommand_keyinLo (p : Pend) (s : State) : (beginCommand p s).keyinLo = s.keyinLo := rfl
@[simp] theorem beginCommand_dinHi (p : Pend) (s : State) : (beginCommand p s).dinHi = s.dinHi := rfl
@[simp] theorem beginCommand_dinLo (p : Pend) (s : State) : (beginCommand p s).dinLo = s.dinLo := rfl
@[simp] theorem beginCommand_doutHi (p : Pend) (s : State) : (beginCommand p s).doutHi = s.doutHi := rfl
@[simp] theorem beginCommand_doutLo (p : Pend) (s : State) : (beginCommand p s).doutLo = s.doutLo := rfl
@[simp] theorem beginCommand_sched (p : Pend) (s : State) : (beginCommand p s).sched = s.sched := rfl
@[simp] theorem beginCommand_busy (p : Pend) (s : State) : (beginCommand p s).busy = true := rfl
@[simp] theorem beginCommand_kv (p : Pend) (s : State) : (beginCommand p s).kv = s.kv := rfl
@[simp] theorem beginCommand_dv (p : Pend) (s : State) : (beginCommand p s).dv = s.dv := rfl
@[simp] theorem beginCommand_err (p : Pend) (s : State) : (beginCommand p s).err = s.err := rfl
@[simp] theorem beginCommand_errcode (p : Pend) (s : State) : (beginCommand p s).errcode = s.errcode := rfl
@[simp] theorem beginCommand_kfHi (p : Pend) (s : State) : (beginCommand p s).kfHi = s.kfHi := rfl
@[simp] theorem beginCommand_kfLo (p : Pend) (s : State) : (beginCommand p s).kfLo = s.kfLo := rfl
@[simp] theorem beginCommand_dfHi (p : Pend) (s : State) : (beginCommand p s).dfHi = s.dfHi := rfl
@[simp] theorem beginCommand_dfLo (p : Pend) (s : State) : (beginCommand p s).dfLo = s.dfLo := rfl
@[simp] theorem beginCommand_pend (p : Pend) (s : State) : (beginCommand p s).pend = p := rfl
@[simp] theorem beginCommand_faulted (p : Pend) (s : State) : (beginCommand p s).faulted = s.faulted := rfl
@[simp] theorem beginCommand_host (p : Pend) (s : State) : (beginCommand p s).host = s.host := rfl
@[simp] theorem beginCommand_schedule (p : Pend) (s : State) : (beginCommand p s).schedule = s.schedule := rfl
@[simp] theorem beginCommand_readLog (p : Pend) (s : State) : (beginCommand p s).readLog = s.readLog := rfl
@[simp] theorem beginCommand_draws (p : Pend) (s : State) : (beginCommand p s).draws = s.draws := rfl

/-! ### endCommand -/

@[simp] theorem endCommand_keyinHi (s : State) : (endCommand s).keyinHi = s.keyinHi := rfl
@[simp] theorem endCommand_keyinLo (s : State) : (endCommand s).keyinLo = s.keyinLo := rfl
@[simp] theorem endCommand_dinHi (s : State) : (endCommand s).dinHi = s.dinHi := rfl
@[simp] theorem endCommand_dinLo (s : State) : (endCommand s).dinLo = s.dinLo := rfl
@[simp] theorem endCommand_doutHi (s : State) : (endCommand s).doutHi = s.doutHi := rfl
@[simp] theorem endCommand_doutLo (s : State) : (endCommand s).doutLo = s.doutLo := rfl
@[simp] theorem endCommand_sched (s : State) : (endCommand s).sched = s.sched := rfl
@[simp] theorem endCommand_busy (s : State) : (endCommand s).busy = false := rfl
@[simp] theorem endCommand_kv (s : State) : (endCommand s).kv = s.kv := rfl
@[simp] theorem endCommand_dv (s : State) : (endCommand s).dv = s.dv := rfl
@[simp] theorem endCommand_err (s : State) : (endCommand s).err = s.err := rfl
@[simp] theorem endCommand_errcode (s : State) : (endCommand s).errcode = s.errcode := rfl
@[simp] theorem endCommand_kfHi (s : State) : (endCommand s).kfHi = s.kfHi := rfl
@[simp] theorem endCommand_kfLo (s : State) : (endCommand s).kfLo = s.kfLo := rfl
@[simp] theorem endCommand_dfHi (s : State) : (endCommand s).dfHi = s.dfHi := rfl
@[simp] theorem endCommand_dfLo (s : State) : (endCommand s).dfLo = s.dfLo := rfl
@[simp] theorem endCommand_pend (s : State) : (endCommand s).pend = .none := rfl
@[simp] theorem endCommand_faulted (s : State) : (endCommand s).faulted = s.faulted := rfl
@[simp] theorem endCommand_host (s : State) : (endCommand s).host = s.host := rfl
@[simp] theorem endCommand_schedule (s : State) : (endCommand s).schedule = s.schedule := rfl
@[simp] theorem endCommand_readLog (s : State) : (endCommand s).readLog = s.readLog := rfl
@[simp] theorem endCommand_draws (s : State) : (endCommand s).draws = s.draws := rfl

/-! ### recordBusFault -/

@[simp] theorem recordBusFault_keyinHi (off : Offset) (n : Nat) (s : State) : (recordBusFault off n s).keyinHi = s.keyinHi := rfl
@[simp] theorem recordBusFault_keyinLo (off : Offset) (n : Nat) (s : State) : (recordBusFault off n s).keyinLo = s.keyinLo := rfl
@[simp] theorem recordBusFault_dinHi (off : Offset) (n : Nat) (s : State) : (recordBusFault off n s).dinHi = s.dinHi := rfl
@[simp] theorem recordBusFault_dinLo (off : Offset) (n : Nat) (s : State) : (recordBusFault off n s).dinLo = s.dinLo := rfl
@[simp] theorem recordBusFault_doutHi (off : Offset) (n : Nat) (s : State) : (recordBusFault off n s).doutHi = s.doutHi := rfl
@[simp] theorem recordBusFault_doutLo (off : Offset) (n : Nat) (s : State) : (recordBusFault off n s).doutLo = s.doutLo := rfl
@[simp] theorem recordBusFault_sched (off : Offset) (n : Nat) (s : State) : (recordBusFault off n s).sched = s.sched := rfl
@[simp] theorem recordBusFault_busy (off : Offset) (n : Nat) (s : State) : (recordBusFault off n s).busy = s.busy := rfl
@[simp] theorem recordBusFault_kv (off : Offset) (n : Nat) (s : State) : (recordBusFault off n s).kv = s.kv := rfl
@[simp] theorem recordBusFault_dv (off : Offset) (n : Nat) (s : State) : (recordBusFault off n s).dv = s.dv := rfl
@[simp] theorem recordBusFault_err (off : Offset) (n : Nat) (s : State) : (recordBusFault off n s).err = s.err := rfl
@[simp] theorem recordBusFault_errcode (off : Offset) (n : Nat) (s : State) : (recordBusFault off n s).errcode = s.errcode := rfl
@[simp] theorem recordBusFault_kfHi (off : Offset) (n : Nat) (s : State) : (recordBusFault off n s).kfHi = s.kfHi := rfl
@[simp] theorem recordBusFault_kfLo (off : Offset) (n : Nat) (s : State) : (recordBusFault off n s).kfLo = s.kfLo := rfl
@[simp] theorem recordBusFault_dfHi (off : Offset) (n : Nat) (s : State) : (recordBusFault off n s).dfHi = s.dfHi := rfl
@[simp] theorem recordBusFault_dfLo (off : Offset) (n : Nat) (s : State) : (recordBusFault off n s).dfLo = s.dfLo := rfl
@[simp] theorem recordBusFault_pend (off : Offset) (n : Nat) (s : State) : (recordBusFault off n s).pend = s.pend := rfl
@[simp] theorem recordBusFault_faulted (off : Offset) (n : Nat) (s : State) : (recordBusFault off n s).faulted = true := rfl
@[simp] theorem recordBusFault_host (off : Offset) (n : Nat) (s : State) : (recordBusFault off n s).host = s.host := rfl
@[simp] theorem recordBusFault_schedule (off : Offset) (n : Nat) (s : State) : (recordBusFault off n s).schedule = s.schedule := rfl
@[simp] theorem recordBusFault_readLog (off : Offset) (n : Nat) (s : State) : (recordBusFault off n s).readLog = s.readLog := rfl
@[simp] theorem recordBusFault_draws (off : Offset) (n : Nat) (s : State) : (recordBusFault off n s).draws = s.draws := rfl

/-! ### logRead -/

@[simp] theorem logRead_keyinHi (v : Word) (s : State) : (logRead v s).keyinHi = s.keyinHi := rfl
@[simp] theorem logRead_keyinLo (v : Word) (s : State) : (logRead v s).keyinLo = s.keyinLo := rfl
@[simp] theorem logRead_dinHi (v : Word) (s : State) : (logRead v s).dinHi = s.dinHi := rfl
@[simp] theorem logRead_dinLo (v : Word) (s : State) : (logRead v s).dinLo = s.dinLo := rfl
@[simp] theorem logRead_doutHi (v : Word) (s : State) : (logRead v s).doutHi = s.doutHi := rfl
@[simp] theorem logRead_doutLo (v : Word) (s : State) : (logRead v s).doutLo = s.doutLo := rfl
@[simp] theorem logRead_sched (v : Word) (s : State) : (logRead v s).sched = s.sched := rfl
@[simp] theorem logRead_busy (v : Word) (s : State) : (logRead v s).busy = s.busy := rfl
@[simp] theorem logRead_kv (v : Word) (s : State) : (logRead v s).kv = s.kv := rfl
@[simp] theorem logRead_dv (v : Word) (s : State) : (logRead v s).dv = s.dv := rfl
@[simp] theorem logRead_err (v : Word) (s : State) : (logRead v s).err = s.err := rfl
@[simp] theorem logRead_errcode (v : Word) (s : State) : (logRead v s).errcode = s.errcode := rfl
@[simp] theorem logRead_kfHi (v : Word) (s : State) : (logRead v s).kfHi = s.kfHi := rfl
@[simp] theorem logRead_kfLo (v : Word) (s : State) : (logRead v s).kfLo = s.kfLo := rfl
@[simp] theorem logRead_dfHi (v : Word) (s : State) : (logRead v s).dfHi = s.dfHi := rfl
@[simp] theorem logRead_dfLo (v : Word) (s : State) : (logRead v s).dfLo = s.dfLo := rfl
@[simp] theorem logRead_pend (v : Word) (s : State) : (logRead v s).pend = s.pend := rfl
@[simp] theorem logRead_faulted (v : Word) (s : State) : (logRead v s).faulted = s.faulted := rfl
@[simp] theorem logRead_host (v : Word) (s : State) : (logRead v s).host = s.host := rfl
@[simp] theorem logRead_schedule (v : Word) (s : State) : (logRead v s).schedule = s.schedule := rfl
@[simp] theorem logRead_readLog (v : Word) (s : State) : (logRead v s).readLog = s.readLog ++ [v] := rfl
@[simp] theorem logRead_draws (v : Word) (s : State) : (logRead v s).draws = s.draws := rfl

/-! ### consumeKeyFill -/

@[simp] theorem consumeKeyFill_keyinHi (s : State) : (consumeKeyFill s).keyinHi = s.keyinHi := rfl
@[simp] theorem consumeKeyFill_keyinLo (s : State) : (consumeKeyFill s).keyinLo = s.keyinLo := rfl
@[simp] theorem consumeKeyFill_dinHi (s : State) : (consumeKeyFill s).dinHi = s.dinHi := rfl
@[simp] theorem consumeKeyFill_dinLo (s : State) : (consumeKeyFill s).dinLo = s.dinLo := rfl
@[simp] theorem consumeKeyFill_doutHi (s : State) : (consumeKeyFill s).doutHi = s.doutHi := rfl
@[simp] theorem consumeKeyFill_doutLo (s : State) : (consumeKeyFill s).doutLo = s.doutLo := rfl
@[simp] theorem consumeKeyFill_sched (s : State) : (consumeKeyFill s).sched = s.sched := rfl
@[simp] theorem consumeKeyFill_busy (s : State) : (consumeKeyFill s).busy = s.busy := rfl
@[simp] theorem consumeKeyFill_kv (s : State) : (consumeKeyFill s).kv = s.kv := rfl
@[simp] theorem consumeKeyFill_dv (s : State) : (consumeKeyFill s).dv = s.dv := rfl
@[simp] theorem consumeKeyFill_err (s : State) : (consumeKeyFill s).err = s.err := rfl
@[simp] theorem consumeKeyFill_errcode (s : State) : (consumeKeyFill s).errcode = s.errcode := rfl
@[simp] theorem consumeKeyFill_kfHi (s : State) : (consumeKeyFill s).kfHi = false := rfl
@[simp] theorem consumeKeyFill_kfLo (s : State) : (consumeKeyFill s).kfLo = false := rfl
@[simp] theorem consumeKeyFill_dfHi (s : State) : (consumeKeyFill s).dfHi = s.dfHi := rfl
@[simp] theorem consumeKeyFill_dfLo (s : State) : (consumeKeyFill s).dfLo = s.dfLo := rfl
@[simp] theorem consumeKeyFill_pend (s : State) : (consumeKeyFill s).pend = s.pend := rfl
@[simp] theorem consumeKeyFill_faulted (s : State) : (consumeKeyFill s).faulted = s.faulted := rfl
@[simp] theorem consumeKeyFill_host (s : State) : (consumeKeyFill s).host = s.host := rfl
@[simp] theorem consumeKeyFill_schedule (s : State) : (consumeKeyFill s).schedule = s.schedule := rfl
@[simp] theorem consumeKeyFill_readLog (s : State) : (consumeKeyFill s).readLog = s.readLog := rfl
@[simp] theorem consumeKeyFill_draws (s : State) : (consumeKeyFill s).draws = s.draws := rfl

/-! ### consumeDataFill -/

@[simp] theorem consumeDataFill_keyinHi (s : State) : (consumeDataFill s).keyinHi = s.keyinHi := rfl
@[simp] theorem consumeDataFill_keyinLo (s : State) : (consumeDataFill s).keyinLo = s.keyinLo := rfl
@[simp] theorem consumeDataFill_dinHi (s : State) : (consumeDataFill s).dinHi = s.dinHi := rfl
@[simp] theorem consumeDataFill_dinLo (s : State) : (consumeDataFill s).dinLo = s.dinLo := rfl
@[simp] theorem consumeDataFill_doutHi (s : State) : (consumeDataFill s).doutHi = s.doutHi := rfl
@[simp] theorem consumeDataFill_doutLo (s : State) : (consumeDataFill s).doutLo = s.doutLo := rfl
@[simp] theorem consumeDataFill_sched (s : State) : (consumeDataFill s).sched = s.sched := rfl
@[simp] theorem consumeDataFill_busy (s : State) : (consumeDataFill s).busy = s.busy := rfl
@[simp] theorem consumeDataFill_kv (s : State) : (consumeDataFill s).kv = s.kv := rfl
@[simp] theorem consumeDataFill_dv (s : State) : (consumeDataFill s).dv = s.dv := rfl
@[simp] theorem consumeDataFill_err (s : State) : (consumeDataFill s).err = s.err := rfl
@[simp] theorem consumeDataFill_errcode (s : State) : (consumeDataFill s).errcode = s.errcode := rfl
@[simp] theorem consumeDataFill_kfHi (s : State) : (consumeDataFill s).kfHi = s.kfHi := rfl
@[simp] theorem consumeDataFill_kfLo (s : State) : (consumeDataFill s).kfLo = s.kfLo := rfl
@[simp] theorem consumeDataFill_dfHi (s : State) : (consumeDataFill s).dfHi = false := rfl
@[simp] theorem consumeDataFill_dfLo (s : State) : (consumeDataFill s).dfLo = false := rfl
@[simp] theorem consumeDataFill_pend (s : State) : (consumeDataFill s).pend = s.pend := rfl
@[simp] theorem consumeDataFill_faulted (s : State) : (consumeDataFill s).faulted = s.faulted := rfl
@[simp] theorem consumeDataFill_host (s : State) : (consumeDataFill s).host = s.host := rfl
@[simp] theorem consumeDataFill_schedule (s : State) : (consumeDataFill s).schedule = s.schedule := rfl
@[simp] theorem consumeDataFill_readLog (s : State) : (consumeDataFill s).readLog = s.readLog := rfl
@[simp] theorem consumeDataFill_draws (s : State) : (consumeDataFill s).draws = s.draws := rfl

/-! ### raiseCmdError -/

@[simp] theorem raiseCmdError_keyinHi (e : CmdError) (s : State) : (raiseCmdError e s).keyinHi = s.keyinHi := by
  unfold raiseCmdError; split <;> rfl
@[simp] theorem raiseCmdError_keyinLo (e : CmdError) (s : State) : (raiseCmdError e s).keyinLo = s.keyinLo := by
  unfold raiseCmdError; split <;> rfl
@[simp] theorem raiseCmdError_dinHi (e : CmdError) (s : State) : (raiseCmdError e s).dinHi = s.dinHi := by
  unfold raiseCmdError; split <;> rfl
@[simp] theorem raiseCmdError_dinLo (e : CmdError) (s : State) : (raiseCmdError e s).dinLo = s.dinLo := by
  unfold raiseCmdError; split <;> rfl
@[simp] theorem raiseCmdError_doutHi (e : CmdError) (s : State) : (raiseCmdError e s).doutHi = s.doutHi := by
  unfold raiseCmdError; split <;> rfl
@[simp] theorem raiseCmdError_doutLo (e : CmdError) (s : State) : (raiseCmdError e s).doutLo = s.doutLo := by
  unfold raiseCmdError; split <;> rfl
@[simp] theorem raiseCmdError_sched (e : CmdError) (s : State) : (raiseCmdError e s).sched = s.sched := by
  unfold raiseCmdError; split <;> rfl
@[simp] theorem raiseCmdError_busy (e : CmdError) (s : State) : (raiseCmdError e s).busy = s.busy := by
  unfold raiseCmdError; split <;> rfl
@[simp] theorem raiseCmdError_kv (e : CmdError) (s : State) : (raiseCmdError e s).kv = s.kv := by
  unfold raiseCmdError; split <;> rfl
@[simp] theorem raiseCmdError_dv (e : CmdError) (s : State) : (raiseCmdError e s).dv = s.dv := by
  unfold raiseCmdError; split <;> rfl
@[simp] theorem raiseCmdError_kfHi (e : CmdError) (s : State) : (raiseCmdError e s).kfHi = s.kfHi := by
  unfold raiseCmdError; split <;> rfl
@[simp] theorem raiseCmdError_kfLo (e : CmdError) (s : State) : (raiseCmdError e s).kfLo = s.kfLo := by
  unfold raiseCmdError; split <;> rfl
@[simp] theorem raiseCmdError_dfHi (e : CmdError) (s : State) : (raiseCmdError e s).dfHi = s.dfHi := by
  unfold raiseCmdError; split <;> rfl
@[simp] theorem raiseCmdError_dfLo (e : CmdError) (s : State) : (raiseCmdError e s).dfLo = s.dfLo := by
  unfold raiseCmdError; split <;> rfl
@[simp] theorem raiseCmdError_pend (e : CmdError) (s : State) : (raiseCmdError e s).pend = s.pend := by
  unfold raiseCmdError; split <;> rfl
@[simp] theorem raiseCmdError_faulted (e : CmdError) (s : State) : (raiseCmdError e s).faulted = s.faulted := by
  unfold raiseCmdError; split <;> rfl
@[simp] theorem raiseCmdError_host (e : CmdError) (s : State) : (raiseCmdError e s).host = s.host := by
  unfold raiseCmdError; split <;> rfl
@[simp] theorem raiseCmdError_schedule (e : CmdError) (s : State) : (raiseCmdError e s).schedule = s.schedule := by
  unfold raiseCmdError; split <;> rfl
@[simp] theorem raiseCmdError_readLog (e : CmdError) (s : State) : (raiseCmdError e s).readLog = s.readLog := by
  unfold raiseCmdError; split <;> rfl
@[simp] theorem raiseCmdError_draws (e : CmdError) (s : State) : (raiseCmdError e s).draws = s.draws := by
  unfold raiseCmdError; split <;> rfl
@[simp] theorem raiseCmdError_err (e : CmdError) (s : State) : (raiseCmdError e s).err = true := by
  unfold raiseCmdError; split <;> simp_all
@[simp] theorem raiseCmdError_errcode (e : CmdError) (s : State) :
    (raiseCmdError e s).errcode = if s.err then s.errcode else errorCode e := by
  unfold raiseCmdError; split <;> rfl

/-! ### hardwareReset -/

@[simp] theorem hardwareReset_keyinHi (s : State) : (hardwareReset s).keyinHi = State.reset.keyinHi := rfl
@[simp] theorem hardwareReset_keyinLo (s : State) : (hardwareReset s).keyinLo = State.reset.keyinLo := rfl
@[simp] theorem hardwareReset_dinHi (s : State) : (hardwareReset s).dinHi = State.reset.dinHi := rfl
@[simp] theorem hardwareReset_dinLo (s : State) : (hardwareReset s).dinLo = State.reset.dinLo := rfl
@[simp] theorem hardwareReset_doutHi (s : State) : (hardwareReset s).doutHi = State.reset.doutHi := rfl
@[simp] theorem hardwareReset_doutLo (s : State) : (hardwareReset s).doutLo = State.reset.doutLo := rfl
@[simp] theorem hardwareReset_sched (s : State) : (hardwareReset s).sched = State.reset.sched := rfl
@[simp] theorem hardwareReset_busy (s : State) : (hardwareReset s).busy = State.reset.busy := rfl
@[simp] theorem hardwareReset_kv (s : State) : (hardwareReset s).kv = State.reset.kv := rfl
@[simp] theorem hardwareReset_dv (s : State) : (hardwareReset s).dv = State.reset.dv := rfl
@[simp] theorem hardwareReset_err (s : State) : (hardwareReset s).err = State.reset.err := rfl
@[simp] theorem hardwareReset_errcode (s : State) : (hardwareReset s).errcode = State.reset.errcode := rfl
@[simp] theorem hardwareReset_kfHi (s : State) : (hardwareReset s).kfHi = State.reset.kfHi := rfl
@[simp] theorem hardwareReset_kfLo (s : State) : (hardwareReset s).kfLo = State.reset.kfLo := rfl
@[simp] theorem hardwareReset_dfHi (s : State) : (hardwareReset s).dfHi = State.reset.dfHi := rfl
@[simp] theorem hardwareReset_dfLo (s : State) : (hardwareReset s).dfLo = State.reset.dfLo := rfl
@[simp] theorem hardwareReset_pend (s : State) : (hardwareReset s).pend = State.reset.pend := rfl
@[simp] theorem hardwareReset_faulted (s : State) : (hardwareReset s).faulted = s.faulted := rfl
@[simp] theorem hardwareReset_host (s : State) : (hardwareReset s).host = s.host := rfl
@[simp] theorem hardwareReset_schedule (s : State) : (hardwareReset s).schedule = s.schedule := rfl
@[simp] theorem hardwareReset_readLog (s : State) : (hardwareReset s).readLog = s.readLog := rfl
@[simp] theorem hardwareReset_draws (s : State) : (hardwareReset s).draws = s.draws := rfl

/-! ### The block and the run around it -/

/-- States with one block state differ in the run around it only. -/
theorem exists_run_of_block_eq {s u : State} (h : s.toBlockState = u.toBlockState) :
    ∃ host schedule readLog draws, u = { s with
      host := host, schedule := schedule, readLog := readLog, draws := draws } :=
  ⟨u.host, u.schedule, u.readLog, u.draws, by rw [h]⟩

@[simp] theorem logRead_toBlockState (v : Word) (s : State) :
    (logRead v s).toBlockState = s.toBlockState := rfl

@[simp] theorem draw_toBlockState (s : State) : (draw s).2.toBlockState = s.toBlockState := rfl

end Sys2Proof.Laws
end

