-- ==== Sys2Proof/Laws/Step.lean ====
section
/-! SUPPORT. Laws/Step: what each shared operation and a step can do, said once. -/

namespace Sys2Proof.Laws

open Sys2Proof.Machine

/-- A refused write changes ERR and ERRCODE only. -/
theorem raiseCmdError_frame (e : CmdError) (s : State) :
    raiseCmdError e s =
      { s with err := true, errcode := if s.err then s.errcode else errorCode e } := by
  unfold raiseCmdError
  by_cases h : s.err = true
  · rw [if_pos h, if_pos h, ← h]
  · rw [if_neg h, if_neg h]

theorem unlessBusy_idle {s act : State} (h : s.busy = false) : unlessBusy s act = act := by
  simp [unlessBusy, h]

theorem unlessBusy_busy {s act : State} (h : s.busy = true) :
    unlessBusy s act = raiseCmdError .proto s := by
  simp [unlessBusy, h]

/-- What presenting a command can do to the state it is presented in. -/
inductive Presented (p : State) : State → Prop where
  | unchanged : Presented p p
  | refused (e : CmdError) : Presented p (raiseCmdError e p)
  | setkey : p.busy = false → keyFilled p = true → Presented p (acceptSetkey p)
  | encrypt : p.busy = false → p.kv = true → dataFilled p = true →
      Presented p (acceptCrypt .encrypt p)
  | decrypt : p.busy = false → p.kv = true → dataFilled p = true →
      Presented p (acceptCrypt .decrypt p)

theorem presentCrypt_eq (q : Pend) (p : State) :
    presentCrypt q p = (if p.busy then raiseCmdError .proto p
      else if p.kv = false then raiseCmdError .nokey p
      else if dataFilled p = false then raiseCmdError .blklen p
      else acceptCrypt q p) := by
  unfold presentCrypt unlessBusy
  cases p.busy <;> cases p.kv <;> cases dataFilled p <;> rfl

theorem execSetkey_eq (p : State) :
    execSetkey p = .next (if p.busy then raiseCmdError .proto p
      else if keyFilled p = false then raiseCmdError .keylen p
      else acceptSetkey p) := by
  unfold execSetkey unlessBusy
  cases p.busy <;> cases keyFilled p <;> rfl

/-- `exec` always answers a next state, and it is one of these. -/
theorem exec_presented (i : Instr) (p : State) :
    ∃ t, exec i p = .next t ∧ Presented p t := by
  cases i with
  | nop =>
    refine ⟨_, rfl, ?_⟩
    unfold unlessBusy; split
    · exact .refused _
    · exact .unchanged
  | setkey =>
    refine ⟨_, rfl, ?_⟩
    unfold unlessBusy; split
    · exact .refused _
    · split
      · exact .setkey (by simpa using ‹¬p.busy = true›) ‹_›
      · exact .refused _
  | encrypt =>
    refine ⟨_, rfl, ?_⟩
    rw [presentCrypt_eq]
    split; · exact .refused _
    split; · exact .refused _
    split; · exact .refused _
    exact .encrypt (by simpa using ‹¬p.busy = true›) (by simpa using ‹¬p.kv = false›)
      (by simpa using ‹¬dataFilled p = false›)
  | decrypt =>
    refine ⟨_, rfl, ?_⟩
    rw [presentCrypt_eq]
    split; · exact .refused _
    split; · exact .refused _
    split; · exact .refused _
    exact .decrypt (by simpa using ‹¬p.busy = true›) (by simpa using ‹¬p.kv = false›)
      (by simpa using ‹¬dataFilled p = false›)

/-- On the host's turn the host moves. -/
theorem takeTurn_host {s : State} {rest : List Slot} (h : HostMoves s rest) :
    takeTurn s = hostTurn { s with schedule := rest } := by
  rcases h with h | ⟨h, rfl, hb⟩
  · simp [takeTurn, h]
  · have e : takeTurn s = hostTurn s := by simp [takeTurn, h, hb]
    rw [e, ← h]

/-- On the engine's turn, with BUSY = 1, the pending command completes. -/
theorem step_engine {s : State} {rest : List Slot} (h : EngineMoves s rest) :
    step s = .next (complete { s with schedule := rest }) := by
  obtain ⟨hb, h | ⟨h, rfl⟩⟩ := h
  · simp [step, takeTurn, h, engineTurn, hb]
  · have e : step s = .next (complete s) := by simp [step, takeTurn, h, hb]
    rw [e, ← h]

/-- The host's next operation, where the host can move. -/
theorem step_issue {s : State} {rest : List Slot} {op : HostOp} {ops : List HostOp}
    (h : HostIssues s rest op ops) :
    step s = match (match op with
        | .read off size => hostRead off size ops { s with schedule := rest }
        | .write off size v => hostWrite off size v ops { s with schedule := rest }
        | .poll => hostPoll ops { s with schedule := rest }) with
      | .command i t => exec i t
      | .done t => .next t
      | .stopped f => .fault f := by
  obtain ⟨hm, hf, ho⟩ := h
  unfold step
  rw [takeTurn_host hm]
  simp only [hostTurn, ho, hf]
  rfl

/-- What one step can do. Every step that answers a next state is one of these. -/
inductive Effect (s : State) : State → Prop where
  | completed (rest : List Slot) : EngineMoves s rest →
      Effect s (complete { s with schedule := rest })
  | reset (rest : List Slot) : s.schedule = .reset :: rest →
      Effect s (hardwareReset { s with schedule := rest })
  | passed (rest : List Slot) : Effect s { s with schedule := rest }
  | busFault (rest : List Slot) : Effect s { s with schedule := rest, faulted := true }
  | read (rest : List Slot) (ops : List HostOp) (v : Word) (d : Nat) :
      Effect s { s with schedule := rest, host := ops, readLog := s.readLog ++ [v], draws := d }
  | polled (rest : List Slot) (ops : List HostOp) (v : Word) :
      Effect s { s with schedule := rest, host := ops, readLog := s.readLog ++ [v] }
  | presented (rest : List Slot) (w : Word) (ops : List HostOp) (i : Instr) (t : State) :
      HostIssues s rest (.write 0x00#8 4 w) ops → decode w = .ok i →
      exec i { s with schedule := rest, host := ops } = .next t →
      Presented { s with schedule := rest, host := ops } t → Effect s t
  | refused (e : CmdError) (rest : List Slot) (ops : List HostOp) :
      Effect s (raiseCmdError e { s with schedule := rest, host := ops })
  | cleared (rest : List Slot) (ops : List HostOp) :
      Effect s (clearError { s with schedule := rest, host := ops })
  | keyHigh (rest : List Slot) (v : Word) (ops : List HostOp) : s.busy = false →
      HostIssues s rest (.write 0x08#8 4 v) ops →
      Effect s { s with schedule := rest, host := ops, keyinHi := v, kfHi := true }
  | keyLow (rest : List Slot) (v : Word) (ops : List HostOp) : s.busy = false →
      HostIssues s rest (.write 0x0C#8 4 v) ops →
      Effect s { s with schedule := rest, host := ops, keyinLo := v, kfLo := true }
  | dataHigh (rest : List Slot) (v : Word) (ops : List HostOp) : s.busy = false →
      HostIssues s rest (.write 0x10#8 4 v) ops →
      Effect s { s with schedule := rest, host := ops, dinHi := v, dfHi := true }
  | dataLow (rest : List Slot) (v : Word) (ops : List HostOp) : s.busy = false →
      HostIssues s rest (.write 0x14#8 4 v) ops →
      Effect s { s with schedule := rest, host := ops, dinLo := v, dfLo := true }
  | ignored (rest : List Slot) (ops : List HostOp) :
      Effect s { s with schedule := rest, host := ops }

theorem supportedAccess_size {off : Offset} {size : Nat} (h : supportedAccess off size = true) :
    size = 4 := by
  have := h
  simp only [supportedAccess, Config.accessBytes, Bool.and_eq_true, beq_iff_eq] at this
  exact this.1

/-- The offset of each register that has one offset. -/
theorem regAt_offset (off : Offset) :
    (regAt off = .cmd → off = 0x00#8) ∧ (regAt off = .status → off = 0x04#8) ∧
    (regAt off = .keyinHi → off = 0x08#8) ∧ (regAt off = .keyinLo → off = 0x0C#8) ∧
    (regAt off = .dinHi → off = 0x10#8) ∧ (regAt off = .dinLo → off = 0x14#8) := by
  revert off; decide

theorem effect_read {s : State} {rest : List Slot} {off : Offset} {size : Nat} {ops : List HostOp}
    {t : State}
    (h : hostRead off size ops { s with schedule := rest } = .done t) : Effect s t := by
  unfold hostRead at h
  by_cases hs : supportedAccess off size = true
  · simp only [hs, if_true, readRegister] at h
    by_cases hp : beingProduced (regAt off) { s with schedule := rest } = true
    · simp only [hp, if_true, draw] at h; cases h; exact .read rest ops _ _
    · simp only [hp] at h; cases h; exact .read rest ops _ _
  · simp only [hs] at h; cases h; exact .busFault rest

theorem effect_poll {s : State} {rest : List Slot} {ops : List HostOp} {t : State}
    (h : hostPoll ops { s with schedule := rest } = .done t) : Effect s t := by
  cases h; exact .polled rest _ _

/-- An idle store into an input register, or its refusal. -/
theorem effect_unlessBusy {s : State} {rest : List Slot} {ops : List HostOp} {act : State}
    (h : s.busy = false → Effect s act) :
    Effect s (unlessBusy { s with schedule := rest, host := ops } act) := by
  rcases Bool.eq_false_or_eq_true s.busy with hb | hb
  · exact unlessBusy_busy (s := { s with schedule := rest, host := ops }) hb ▸ .refused _ rest ops
  · exact unlessBusy_idle (s := { s with schedule := rest, host := ops }) hb ▸ h hb

theorem step_effect {s t : State} (h : step s = .next t) : Effect s t := by
  have issue : ∀ rest, HostMoves s rest → Effect s t := by
    intro rest hm
    have hs := h
    unfold step at hs
    rw [takeTurn_host hm] at hs
    unfold hostTurn at hs
    cases ho : s.host with
    | nil => simp only [ho] at hs; cases hs; rw [← ho]; exact .passed rest
    | cons op ops =>
      cases hf : s.faulted with
      | true => simp [ho, hf] at hs
      | false =>
        have hi : HostIssues s rest op ops := ⟨hm, hf, ho⟩
        rw [step_issue hi] at h
        cases op with
        | read off size =>
          have hd : ∃ u, hostRead off size ops { s with schedule := rest } = .done u := by
            unfold hostRead; split <;> exact ⟨_, rfl⟩
          obtain ⟨u, hu⟩ := hd
          simp only [hu] at h; cases h; exact effect_read hu
        | poll => cases h; exact effect_poll rfl
        | write off size v =>
          simp only [hostWrite] at h
          cases hsup : supportedAccess off size with
          | false => simp only [hsup] at h; cases h; exact .busFault rest
          | true =>
            obtain rfl := supportedAccess_size hsup
            obtain ⟨hcmd, hst, hkh, hkl, hdh, hdl⟩ := regAt_offset off
            simp only [hsup, if_true] at h
            cases hr : regAt off with
            | cmd =>
              obtain rfl := hcmd hr
              simp only [hr, writeRegister, presentCommand] at h
              cases hd : decode v with
              | ok i =>
                simp only [hd] at h
                obtain ⟨u, hu, hp⟩ := exec_presented i { s with schedule := rest, host := ops }
                have : u = t := by rw [hu] at h; cases h; rfl
                subst this
                exact .presented rest v ops i u hi hd hu hp
              | error e =>
                simp only [hd] at h
                cases h
                exact effect_unlessBusy fun _ => .refused _ rest ops
            | status =>
              simp only [hr, writeRegister, writeStatus] at h
              split at h <;> cases h
              · exact .cleared rest ops
              · exact .ignored rest ops
            | keyinHi =>
              obtain rfl := hkh hr
              simp only [hr, writeRegister] at h; cases h
              exact effect_unlessBusy fun hb => .keyHigh rest v ops hb hi
            | keyinLo =>
              obtain rfl := hkl hr
              simp only [hr, writeRegister] at h; cases h
              exact effect_unlessBusy fun hb => .keyLow rest v ops hb hi
            | dinHi =>
              obtain rfl := hdh hr
              simp only [hr, writeRegister] at h; cases h
              exact effect_unlessBusy fun hb => .dataHigh rest v ops hb hi
            | dinLo =>
              obtain rfl := hdl hr
              simp only [hr, writeRegister] at h; cases h
              exact effect_unlessBusy fun hb => .dataLow rest v ops hb hi
            | doutHi => simp only [hr, writeRegister] at h; cases h; exact .ignored rest ops
            | doutLo => simp only [hr, writeRegister] at h; cases h; exact .ignored rest ops
            | sched j => simp only [hr, writeRegister] at h; cases h; exact .ignored rest ops
            | reserved => simp only [hr, writeRegister] at h; cases h; exact .ignored rest ops
  cases hsch : s.schedule with
  | nil =>
    cases hb : s.busy with
    | false => exact issue [] (.inr ⟨hsch, rfl, hb⟩)
    | true =>
      have he : EngineMoves s [] := ⟨hb, .inr ⟨hsch, rfl⟩⟩
      rw [step_engine he] at h; cases h; exact .completed [] he
  | cons slot rest =>
    cases slot with
    | host => exact issue rest (.inl hsch)
    | engine =>
      cases hb : s.busy with
      | false => simp [step, takeTurn, hsch, engineTurn, hb] at h; cases h; exact .passed rest
      | true =>
        have he : EngineMoves s rest := ⟨hb, .inl hsch⟩
        rw [step_engine he] at h; cases h; exact .completed rest he
    | reset => simp [step, takeTurn, hsch] at h; cases h; exact .reset rest hsch

/-- A read of a register: the value and the draw counter, in one equation. -/
theorem readRegister_eq (r : Reg) (s : State) :
    readRegister r s =
      (if beingProduced r s then Config.draw32 s.draws else registerValue r s,
        { s with draws := if beingProduced r s then s.draws + 1 else s.draws }) := by
  unfold readRegister draw
  by_cases h : beingProduced r s = true
  · simp only [h, if_true]
  · simp only [h]; rfl

theorem supportedAccess_four {off : Offset} (h : off.toNat % 4 = 0) :
    supportedAccess off 4 = true := by
  simp [supportedAccess, Config.accessBytes, h]

/-- A supported host write is the write of the register at its offset. -/
theorem step_write {s : State} {rest : List Slot} {off : Offset} {v : Word} {ops : List HostOp}
    (h : HostIssues s rest (.write off 4 v) ops) (ha : off.toNat % 4 = 0) :
    step s = match writeRegister (regAt off) v { s with schedule := rest, host := ops } with
      | .command i t => exec i t
      | .done t => .next t
      | .stopped f => .fault f := by
  rw [step_issue h]
  simp only [hostWrite, supportedAccess_four ha]
  rfl

/-- The completion of the pending command leaves the run's own fields, FAULTED, the inputs, the fill
flags and the error as they are. -/
theorem complete_frame (s : State) :
    complete s = { s with
      busy := false, pend := .none, sched := (complete s).sched, kv := (complete s).kv
      doutHi := (complete s).doutHi, doutLo := (complete s).doutLo, dv := (complete s).dv } := by
  unfold complete
  cases s.pend <;> rfl

/-- One step of a run. -/
theorem run_next {k : Nat} {s t : State} (h : step s = .next t) :
    Host.Core.run Sys2Proof.core (k + 1) s = Host.Core.run Sys2Proof.core k t := by
  have h' : Sys2Proof.core.step s = .next t := h
  simp only [Host.Core.run, h']

end Sys2Proof.Laws
end

