-- ==== Sys2Proof/Tests/Slice0.lean ====
section
/-! SUPPORT. Tests: words and vectors written out from the spec, the WellFormed smoke, and a witness for the hypotheses of every statement that has any. -/

namespace Sys2Proof.Tests

open Sys2Proof.Machine

/-! ### Small states -/

/-- The outcome is a next state with the property `p`. -/
def nextWith (o : Host.Outcome State Fault Refusal) (p : State → Bool) : Bool :=
  match o with
  | .next t => p t
  | .fault _ => false
  | .refused _ => false

/-- The outcome is a fault. -/
def faults (o : Host.Outcome State Fault Refusal) : Bool :=
  match o with
  | .next _ => false
  | .fault _ => true
  | .refused _ => false

/-- The host's next turn is the operation `op`. -/
def issuing (op : HostOp) (s : State) : State := { s with schedule := [.host], host := [op] }

/-- After `KEY 0123456789ABCDEF` (R77). -/
def keyed : State :=
  { State.reset with keyinHi := 0x01234567#32, keyinLo := 0x89ABCDEF#32, kfHi := true, kfLo := true }

/-- 95_test_vectors.md V3: SETKEY accepted. -/
def settingKey : State := { keyed with kfHi := false, kfLo := false, busy := true, pend := .setkey }

/-- V5 and a block in DIN: the schedule of the known-answer key is loaded. -/
def loaded : State :=
  { keyed with
    kfHi := false, kfLo := false, kv := true, dfHi := true, dfLo := true
    sched := #v[0xDF3BCA36#32, 0xF17C1AEC#32, 0x45A5B9C7#32, 0x26EBAD25#32,
      0x8B2AECB7#32, 0xAC509D4C#32, 0x22CD479B#32, 0xA8D50CB5#32] }

/-- ENCRYPT accepted with the all-zero block. -/
def encrypting : State := { loaded with dfHi := false, dfLo := false, busy := true, pend := .encrypt }

/-- DECRYPT accepted with the known-answer ciphertext. -/
def decrypting : State :=
  { encrypting with dinHi := 0xCEEF2C86#32, dinLo := 0xF2490752#32, pend := .decrypt }

/-- STATUS after an outcome. -/
def statusIs (o : Host.Outcome State Fault Refusal) (v : Word) : Bool :=
  nextWith o fun t => statusWord t == v

/-! ### WellFormed smoke: one ill-formed word for each check -/

theorem test_wellFormed_refuses_reserved_bits : wellFormedWord 0x00000010#32 = false := by decide

theorem test_wellFormed_refuses_reserved_op : wellFormedWord 0x00000004#32 = false := by decide

theorem test_wellFormed_takes_the_four_words :
    wellFormedWord 0x0#32 = true ∧ wellFormedWord 0x1#32 = true ∧ wellFormedWord 0x2#32 = true ∧
    wellFormedWord 0x3#32 = true := by decide

/-! ### Decoding: the words of 30_encoding.md R70 and R72, bit by bit, and 95_test_vectors.md W5 to W9 -/

theorem test_decode_nop : decode 0b00000000000000000000000000000000#32 = .ok .nop := by decide

theorem test_decode_setkey : decode 0b00000000000000000000000000000001#32 = .ok .setkey := by decide

theorem test_decode_encrypt : decode 0b00000000000000000000000000000010#32 = .ok .encrypt := by decide

theorem test_decode_decrypt : decode 0b00000000000000000000000000000011#32 = .ok .decrypt := by decide

theorem test_decode_illegal_words :
    decode 0x00000004#32 = .error .reservedOp ∧ decode 0x0000000F#32 = .error .reservedOp ∧
    decode 0x00000010#32 = .error .reservedBits ∧ decode 0xFFFFFFFF#32 = .error .reservedBits ∧
    decode 0x80000001#32 = .error .reservedBits := by decide

/-! ### Commands: 95_test_vectors.md sections 6, 7 and 8 -/

/-- W1, and R194's example. -/
theorem test_nop_idle : nextWith (step (State.reset.withFetchWord 32 0)) (· == State.reset) = true := by
  decide

/-- V9. -/
theorem test_nop_busy : statusIs (exec .nop settingKey) 0x00000029#32 = true := by decide

/-- V6: one half of the key written. -/
theorem test_setkey_keylen :
    statusIs (exec .setkey { State.reset with kfHi := true }) 0x00000148#32 = true := by decide

/-- V5. -/
theorem test_setkey_completes :
    nextWith (step { settingKey with schedule := [.engine] })
      (fun t => statusWord t == 0x00000002#32 && t.sched[0] == 0xDF3BCA36#32) = true := by decide

/-- V7: BLKLEN. -/
theorem test_encrypt_blklen :
    statusIs (exec .encrypt { loaded with dfHi := false }) 0x0000085A#32 = true := by decide

/-- X1. -/
theorem test_encrypt_completes :
    nextWith (step { encrypting with schedule := [.engine] })
      (fun t => t.doutHi == 0xCEEF2C86#32 && t.doutLo == 0xF2490752#32) = true := by
  decide +kernel

/-- W4: NOKEY from reset. -/
theorem test_decrypt_nokey :
    statusIs (step (State.reset.withFetchWord 32 3)) 0x00000038#32 = true := by decide

/-- X2. -/
theorem test_decrypt_completes :
    nextWith (step { decrypting with schedule := [.engine] })
      (fun t => t.doutHi == 0x00000000#32 && t.doutLo == 0x00000000#32) = true := by
  decide +kernel

/-! ### Host accesses: 95_test_vectors.md section 8 -/

/-- W5 and W7. -/
theorem test_illegal_words_from_reset :
    statusIs (step (issuing (.write 0x00#8 4 0x00000004#32) State.reset)) 0x00000018#32 = true ∧
    statusIs (step (issuing (.write 0x00#8 4 0x00000010#32) State.reset)) 0x00000018#32 = true := by
  decide

/-- V8. -/
theorem test_data_write_busy :
    nextWith (step (issuing (.write 0x10#8 4 0xFFFFFFFF#32) settingKey))
      (fun t => statusWord t == 0x00000029#32 && t.dinHi == 0#32) = true := by decide

/-- V13 and V14. -/
theorem test_status_write :
    statusIs (step (issuing (.write 0x04#8 4 0x00000008#32)
      { State.reset with err := true, errcode := 3#4 })) 0x00000000#32 = true ∧
    statusIs (step (issuing (.write 0x04#8 4 0xFFFFFFF7#32)
      { State.reset with err := true, errcode := 3#4 })) 0x00000038#32 = true := by decide

/-- R191's example: after `KEY`, STATUS reads 0x00000300. -/
theorem test_status_read :
    nextWith (step (issuing (.read 0x04#8 4) keyed)) (fun t => t.readLog == [0x00000300#32]) = true := by
  decide

/-- V18: a 16-bit read of 0x04 and a 32-bit read of 0x06; then the host is stuck (I16). -/
theorem test_bus_fault :
    nextWith (step (issuing (.read 0x04#8 2) State.reset)) (fun t => t.faulted) = true ∧
    nextWith (step (issuing (.read 0x06#8 4) State.reset)) (fun t => t.faulted) = true ∧
    faults (step (issuing (.read 0x04#8 4) { State.reset with faulted := true })) = true := by decide

/-- V20. -/
theorem test_reset_abandons :
    nextWith (step { settingKey with schedule := [.reset] })
      (fun t => statusWord t == 0#32 && t.pend == .none && t.keyinHi == 0#32) = true := by decide

/-! ### Identity -/

/-- 00_scope.md R1 and R6: the identity, and that both directions and the key schedule run its rounds. -/
theorem test_identity :
    Config.identity = ⟨"FEAL-8", 8, "1989", "FEAL8-DP"⟩ ∧
    roundOrder.length = Config.identity.rounds ∧
    ∀ key : Bytes8, (fkOutputs key).size = Config.identity.rounds :=
  ⟨by decide, by decide, fun _ => rfl⟩

/-! ### Witnesses: the hypotheses of the statements of Certificates/Slice0/Obligations.lean hold together -/

theorem witness_DecodeSelectsExactlyTheMatchingWord :
    Instr.setkey.wellFormed = true ∧ (4 ≤ (4#32).toNat ∧ (4#32).toNat ≤ 15) ∧
    (4 ≤ (15#32).toNat ∧ (15#32).toNat ≤ 15) := by decide

theorem witness_DecodeIsTotalAndIllegalWordsAreRefused :
    (0x10#32).extractLsb' 4 28 ≠ 0 ∧ (0xF#32).extractLsb' 4 28 = 0 ∧
    HostIssues (issuing (.write 0x00#8 4 0x10#32) State.reset) [] (.write 0x00#8 4 0x10#32) [] ∧
    State.reset.busy = false ∧ (∃ e, decode 0x10#32 = .error e) ∧
    HostIssues (issuing (.write 0x00#8 4 0x0#32) settingKey) [] (.write 0x00#8 4 0x0#32) [] ∧
    settingKey.busy = true :=
  ⟨by decide, by decide, by decide, rfl, ⟨_, rfl⟩, by decide, rfl⟩

theorem witness_StepRunsTheDecodedCommand :
    HostIssues (issuing (.write 0x00#8 4 0x1#32) keyed) [] (.write 0x00#8 4 0x1#32) [] ∧
    HostIssues { keyed with host := [.write 0x00#8 4 0x1#32] } [] (.write 0x00#8 4 0x1#32) [] ∧
    decode 0x1#32 = .ok .setkey := by decide

theorem witness_RoundFunctionOnBytes :
    (0x82 : Byte) = 0x7A ^^^ 0xDF ^^^ 0x27 ∧ (0xB1 : Byte) = 0x71 ^^^ 0x3B ^^^ 0xFB ∧
    (0xD0 : Byte) = s1 0x82 0xB1 ∧ (0x06 : Byte) = s0 0xB1 0xD0 := by decide

theorem witness_KeyCombinerOnBytes :
    (0x22 : Byte) = 0x23 ^^^ 0x01 ∧ (0x22 : Byte) = 0x45 ^^^ 0x67 ∧
    (0x3B : Byte) = s1 0x22 (0x22 ^^^ 0x89) ∧ (0xCA : Byte) = s0 0x22 (0x3B ^^^ 0xAB) := by decide

theorem witness_ScheduleObeysTheRecurrence : 0 + 3 < 8 ∧ 4 + 3 < 8 := by decide

/-- Two schedules that differ in `K[8]` and `K[15]` and agree in what the rounds read. -/
theorem witness_RoundsReadOnlyTheFirstEightSubkeys :
    ∃ ks ks' : KeySchedule, ks.k ≠ ks'.k ∧ (∀ (j : Nat) (h : j < 8), ks.k[j] = ks'.k[j]) ∧
      ks.k89 = ks'.k89 ∧ ks.k1011 = ks'.k1011 ∧ ks.k1213 = ks'.k1213 ∧ ks.k1415 = ks'.k1415 :=
  ⟨⟨#v[0, 1, 2, 3, 4, 5, 6, 7, 8, 9, 10, 11, 12, 13, 14, 15], 0, 0, 0, 0⟩,
   ⟨#v[0, 1, 2, 3, 4, 5, 6, 7, 0, 9, 10, 11, 12, 13, 14, 0], 0, 0, 0, 0⟩,
   by decide, by decide, rfl, rfl, rfl, rfl⟩

theorem witness_NopChangesNothing :
    State.reset.busy = false ∧ settingKey.busy = true ∧
    (0x10#32).extractLsb' 0 4 = 0 ∧ (0x10#32).extractLsb' 4 28 ≠ 0 := by decide

theorem witness_SetkeyDerivesAndLoadsTheSchedule :
    keyed.busy = false ∧ keyed.kfHi = true ∧ keyed.kfLo = true ∧
    EngineMoves { settingKey with schedule := [.engine] } [] ∧ EngineMoves settingKey [] := by decide

theorem witness_EncryptDeliversTheCiphertext :
    loaded.busy = false ∧ loaded.kv = true ∧ loaded.dfHi = true ∧ loaded.dfLo = true ∧
    EngineMoves { encrypting with schedule := [.engine] } [] ∧ EngineMoves encrypting [] := by decide

theorem witness_DecryptDeliversThePlaintext :
    loaded.busy = false ∧ loaded.kv = true ∧ loaded.dfHi = true ∧ loaded.dfLo = true ∧
    EngineMoves { decrypting with schedule := [.engine] } [] ∧ EngineMoves decrypting [] := by decide

theorem witness_RefusalsFollowThePriority :
    settingKey.busy = true ∧ State.reset.busy = false ∧ State.reset.kfHi = false ∧
    State.reset.kv = false ∧ { loaded with dfLo := false }.kv = true ∧
    { loaded with dfLo := false }.busy = false ∧ { loaded with dfLo := false }.dfLo = false := by decide

theorem witness_RaiseRecordsOnlyTheFirstError :
    State.reset.err = false ∧ { State.reset with err := true }.err = true := by decide

theorem witness_PresentedCommandsFrame :
    nextWith (exec .nop State.reset) (fun _ => true) = true ∧
    nextWith (exec .setkey keyed) (fun t => t.busy) = true ∧
    nextWith (exec .encrypt loaded) (fun t => t.busy) = true ∧
    nextWith (exec .decrypt loaded) (fun t => t.busy) = true := by decide

theorem witness_CompletionFrame :
    EngineMoves { settingKey with schedule := [.engine] } [] ∧ settingKey.pend = .setkey ∧
    EngineMoves { encrypting with schedule := [.engine] } [] ∧ encrypting.pend = .encrypt ∧
    EngineMoves { decrypting with schedule := [.engine] } [] ∧ decrypting.pend = .decrypt := by decide

theorem witness_RecordedErrorDoesNotBlockCommands :
    nextWith (exec .encrypt { loaded with err := false, errcode := 0 }) (fun t => t.busy) = true ∧
    nextWith (exec .encrypt { loaded with err := true, errcode := 2 }) (fun t => t.busy) = true := by decide

theorem witness_CopyingDoutToDinAndDecryptingRestoresTheBlock :
    loaded.busy = false ∧ loaded.kv = true ∧ loaded.dfHi = true ∧ loaded.dfLo = true := by decide

/-- Every row of the read table, at its first and last offset, in the states it distinguishes. -/
theorem witness_SupportedReadsReturnTheRegister :
    (∀ off ∈ [0x00#8, 0x04#8, 0x08#8, 0x0C#8, 0x10#8, 0x14#8, 0x18#8, 0x1C#8, 0x20#8, 0x3C#8,
        0x40#8, 0xFC#8],
      HostIssues (issuing (.read off 4) loaded) [] (.read off 4) [] ∧
      HostIssues (issuing (.read off 4) encrypting) [] (.read off 4) [] ∧
      HostIssues (issuing (.read off 4) settingKey) [] (.read off 4) [] ∧ off.toNat % 4 = 0) ∧
    encrypting.pend = .encrypt ∧ settingKey.pend = .setkey ∧ loaded.pend = .none ∧
    (0x20#8).toNat = 0x20 + 4 * (0 : Fin 8).val ∧ (0x3C#8).toNat = 0x20 + 4 * (7 : Fin 8).val ∧
    0x40 ≤ (0x40#8).toNat ∧ 0x40 ≤ (0xFC#8).toNat := by decide

theorem witness_PollRepeatsWhileBusy :
    HostIssues (issuing .poll settingKey) [] .poll [] ∧ settingKey.busy = true ∧
    HostIssues (issuing .poll State.reset) [] .poll [] ∧ State.reset.busy = false := by decide

theorem witness_UnsupportedAccessesAreBusFaults :
    2 ≠ 4 ∧ (0x06#8).toNat % 4 ≠ 0 ∧
    HostIssues (issuing (.read 0x04#8 2) State.reset) [] (.read 0x04#8 2) [] ∧
    HostIssues (issuing (.write 0x06#8 4 0) State.reset) [] (.write 0x06#8 4 0) [] := by decide

theorem witness_FaultedHostIsStuck :
    HostMoves (issuing .poll { State.reset with faulted := true }) [] ∧
    (issuing .poll { State.reset with faulted := true }).host ≠ [] ∧
    EngineMoves { settingKey with faulted := true } [] ∧
    nextWith (step { settingKey with faulted := true }) (fun t => t.faulted) = true ∧
    ({ State.reset with faulted := true, schedule := [.reset] } : State).schedule = .reset :: [] := by
  decide

theorem witness_StatusWriteClearsTheError :
    HostIssues (issuing (.write 0x04#8 4 0x8#32) settingKey) [] (.write 0x04#8 4 0x8#32) [] ∧
    (0x8#32).getLsbD 3 = true ∧
    HostIssues (issuing (.write 0x04#8 4 0xFFFFFFF7#32) settingKey) [] (.write 0x04#8 4 0xFFFFFFF7#32) [] ∧
    (0xFFFFFFF7#32).getLsbD 3 = false := by decide

theorem witness_KeyInputWriteStoresOrIsRefused :
    (∀ off ∈ [0x08#8, 0x0C#8],
      HostIssues (issuing (.write off 4 1) State.reset) [] (.write off 4 1) [] ∧
      HostIssues (issuing (.write off 4 1) settingKey) [] (.write off 4 1) []) ∧
    State.reset.busy = false ∧ settingKey.busy = true := by decide

theorem witness_DataInputWriteStoresOrIsRefused :
    (∀ off ∈ [0x10#8, 0x14#8],
      HostIssues (issuing (.write off 4 1) State.reset) [] (.write off 4 1) [] ∧
      HostIssues (issuing (.write off 4 1) settingKey) [] (.write off 4 1) []) ∧
    State.reset.busy = false ∧ settingKey.busy = true := by decide

theorem witness_ReadOnlyAndReservedWritesAreIgnored :
    ∀ off ∈ [0x18#8, 0x1C#8, 0x20#8, 0x3C#8, 0x40#8, 0xFC#8],
      HostIssues (issuing (.write off 4 1) State.reset) [] (.write off 4 1) [] ∧
      HostIssues (issuing (.write off 4 1) settingKey) [] (.write off 4 1) [] ∧
      off.toNat % 4 = 0 ∧ 0x18 ≤ off.toNat := by decide

theorem witness_RegisterMapIsOneToOneOnTheNamedOffsets :
    (0x3C#8).toNat % 4 = 0 ∧ (0x3C#8).toNat < 0x40 ∧ (0x40#8).toNat % 4 = 0 ∧ 0x40 ≤ (0x40#8).toNat := by
  decide

theorem witness_AddressesReachTheirOffsetForEveryBase :
    0x0FFF < 0x1000 ∧ 0x1000 + 256 ≤ 0x1100 := by decide

theorem witness_ResetEventRestoresEveryHardwareElement :
    { settingKey with schedule := [.reset] }.schedule = .reset :: [] := by decide

/-- The invariants hold in states where a command is pending, and a step from each exists. -/
theorem witness_EveryStepKeepsTheInvariants :
    StateInv settingKey ∧ nextWith (step settingKey) (fun t => t.kv) = true :=
  ⟨⟨by decide, by decide, by decide, by decide, by decide, by decide, by decide, by decide,
    fun _ _ => ⟨rfl, rfl⟩, by decide, nofun⟩, by decide⟩

/-- SCHED and DOUT do change: at a completion and at reset. -/
theorem witness_ResultsChangeOnlyAtCompletionOrReset :
    nextWith (step settingKey) (fun t => t.sched != settingKey.sched) = true ∧
    nextWith (step { loaded with schedule := [.reset] }) (fun t => t.sched != loaded.sched) = true ∧
    nextWith (step encrypting) (fun t => t.doutHi != encrypting.doutHi) = true := by
  refine ⟨by decide, by decide, by decide +kernel⟩

theorem witness_InputsChangeOnlyByIdleHostWritesOrReset :
    nextWith (step (issuing (.write 0x14#8 4 7) State.reset)) (fun t => t.dinLo != State.reset.dinLo) = true ∧
    nextWith (step { keyed with schedule := [.reset] }) (fun t => t.keyinHi != keyed.keyinHi) = true := by
  decide

theorem witness_KeyValidIsLostOnlyByResetOrSetkey :
    loaded.kv = true ∧ nextWith (step { loaded with schedule := [.reset] }) (fun t => !t.kv) = true ∧
    nextWith (step (issuing (.write 0x00#8 4 0x1#32) { loaded with kfHi := true, kfLo := true }))
      (fun t => !t.kv) = true := by decide

theorem witness_PendingCommandKeepsItsOperands :
    settingKey.busy = true ∧
    nextWith (step (issuing (.write 0x08#8 4 0xFFFFFFFF#32) settingKey)) (fun t => t.busy) = true := by
  decide

theorem witness_ResultDoesNotDependOnTheLatency :
    let s : State := { settingKey with
      schedule := latencySlots 2 ++ [.host], host := [.read 0x20#8 4, .write 0x10#8 4 7, .poll] }
    s.busy = true ∧ s.faulted = false ∧ (∀ op ∈ s.host, op.supported = true) ∧
      s.schedule = latencySlots 2 ++ [.host] := by decide

theorem witness_EveryRunEndsWell :
    let s : State := { keyed with host := runProgram .setkey, schedule := [.host, .host, .host] }
    s.faulted = false ∧ ∀ op ∈ s.host, op.supported = true := by decide

theorem witness_AnAgentWithNothingToDoChangesNothing :
    State.reset.busy = false ∧ ({ State.reset with schedule := [.engine] } : State).schedule = .engine :: [] ∧
    HostMoves State.reset [] ∧ State.reset.host = [] := by decide

theorem witness_TheRunAroundTheBlockDoesNotReachIt :
    let s : State := issuing (.write 0x08#8 4 0xFFFFFFFF#32) settingKey
    let u : State := { s with host := s.host ++ [.poll], schedule := [.host, .reset], draws := 7 }
    s.toBlockState = u.toBlockState ∧
    HostIssues s [] (.write 0x08#8 4 0xFFFFFFFF#32) [] ∧
    HostIssues u [.reset] (.write 0x08#8 4 0xFFFFFFFF#32) [.poll] ∧
    EngineMoves settingKey [] ∧ EngineMoves { settingKey with schedule := [.engine, .host] } [.host] ∧
    ({ settingKey with schedule := [.reset] } : State).schedule = .reset :: [] := by decide

end Sys2Proof.Tests
end

section
/-! Absolute addresses (00_scope.md R7, 20_memory.md R50): which address reaches which offset. -/

namespace Sys2Proof.Proofs

open Sys2Proof.Machine

/-- The one description of the address map; every other fact about it follows from this one. -/
theorem offsetOfAddress_eq_some_iff {base addr : Nat} {off : Offset} :
    offsetOfAddress base addr = some off ↔ addr = base + off.toNat := by
  have hoff : off.toNat < 256 := off.isLt
  unfold offsetOfAddress Config.spaceBytes
  split
  case isTrue inside =>
    rw [Option.some_inj, ← BitVec.toNat_inj, BitVec.toNat_ofNat]
    omega
  case isFalse outside =>
    simp only [reduceCtorEq, false_iff]
    omega

theorem offsetOfAddress_eq_none {base addr : Nat} (outside : addr < base ∨ base + 256 ≤ addr) :
    offsetOfAddress base addr = none := by
  refine Option.eq_none_iff_forall_ne_some.mpr fun off reaches => ?_
  have haddr : addr = base + off.toNat := offsetOfAddress_eq_some_iff.mp reaches
  have hoff : off.toNat < 256 := off.isLt
  omega

/-- Settles O47: an address reaches `off` exactly when it is `base + off`, and offsets stay below 256. -/
theorem addressesReachTheirOffsetForEveryBase :
    Obligations.AddressesReachTheirOffsetForEveryBase := by
  unfold Obligations.AddressesReachTheirOffsetForEveryBase
  exact fun _ => ⟨fun _ => offsetOfAddress_eq_some_iff.mpr rfl, fun _ => offsetOfAddress_eq_none⟩

end Sys2Proof.Proofs
end

section
/-! The state invariants (10_state.md R39): what each kind of step does to them. -/

namespace Sys2Proof.Proofs

open Sys2Proof.Machine Sys2Proof.Laws

/-- R39(a) read from the other side. -/
theorem pend_none_of_idle {s : State} (inv : StateInv s) (idle : s.busy = false) :
    s.pend = .none := by
  by_contra pending
  exact absurd (inv.busyIffPending.mpr pending) (by simp [idle])

/-- The invariants speak neither of the run around the block nor of FAULTED. -/
theorem stateInv_run {s : State} (inv : StateInv s) (faulted : Bool) (host : List HostOp)
    (schedule : List Slot) (readLog : List Word) (draws : Nat) :
    StateInv { s with
      faulted := faulted, host := host, schedule := schedule, readLog := readLog, draws := draws } :=
  { inv with }

/-- Settles O50: every flag is clear at reset, and so are SCHED and DOUT. -/
theorem resetMeetsTheInvariants : Obligations.ResetMeetsTheInvariants where
  busyIffPending := by decide
  setkeyClearsKv := by decide
  cryptClearsDv := by decide
  noKeyNoSched _ _ := rfl
  noDataNoDout _ _ := ⟨rfl, rfl⟩
  noErrNoCode _ := rfl
  errCodeAssigned := by decide
  cryptHasKey := by decide
  setkeyKeepsDout _ _ := ⟨rfl, rfl⟩
  fillConsumed := by decide
  schedComplete := nofun

theorem stateInv_hardwareReset (s : State) : StateInv (hardwareReset s) :=
  stateInv_run resetMeetsTheInvariants ..

theorem errorCode_assigned (e : CmdError) :
    1 ≤ (errorCode e).toNat ∧ (errorCode e).toNat ≤ 5 := by
  cases e <;> decide

/-- The first error recorded is an assigned one, and a later one leaves it. -/
theorem stateInv_raiseCmdError {s : State} (inv : StateInv s) (e : CmdError) :
    StateInv (raiseCmdError e s) := by
  rw [raiseCmdError_frame]
  refine { inv with noErrNoCode := nofun, errCodeAssigned := fun _ => ?_ }
  show 1 ≤ (if s.err then s.errcode else errorCode e).toNat ∧ _
  split
  · exact inv.errCodeAssigned ‹_›
  · exact errorCode_assigned e

theorem stateInv_clearError {s : State} (inv : StateInv s) : StateInv (clearError s) :=
  { inv with noErrNoCode := fun _ => rfl, errCodeAssigned := nofun }

/-- While idle nothing is pending, so no invariant holds the inputs or their fill flags. -/
theorem stateInv_inputs {s : State} (inv : StateInv s) (idle : s.busy = false)
    (kh kl dh dl : Word) (fkh fkl fdh fdl : Bool) :
    StateInv { s with
      keyinHi := kh, keyinLo := kl, dinHi := dh, dinLo := dl
      kfHi := fkh, kfLo := fkl, dfHi := fdh, dfLo := fdl } := by
  have noPend := pend_none_of_idle inv idle
  exact { inv with fillConsumed := by simp [noPend] }

/-- Acceptance of SETKEY clears KV and the key fill; DOUT is as R39(e) has it in the idle state. -/
theorem stateInv_acceptSetkey {s : State} (inv : StateInv s) (idle : s.busy = false) :
    StateInv (acceptSetkey s) :=
  { inv with
    busyIffPending := by simp [acceptSetkey]
    setkeyClearsKv := fun _ => rfl
    cryptClearsDv := by simp [acceptSetkey]
    noKeyNoSched := nofun
    noDataNoDout := nofun
    cryptHasKey := by simp [acceptSetkey]
    setkeyKeepsDout := fun _ noData => inv.noDataNoDout noData idle
    fillConsumed := by simp [acceptSetkey]
    schedComplete := nofun }

/-- Acceptance of ENCRYPT or DECRYPT clears DV and the data fill, with a key in SCHED. -/
theorem stateInv_acceptCrypt {s : State} {p : Pend} (inv : StateInv s) (hasKey : s.kv = true)
    (crypt : p = .encrypt ∨ p = .decrypt) : StateInv (acceptCrypt p s) :=
  { inv with
    busyIffPending := by rcases crypt with rfl | rfl <;> simp [acceptCrypt]
    setkeyClearsKv := by rcases crypt with rfl | rfl <;> simp [acceptCrypt]
    cryptClearsDv := fun _ => rfl
    noKeyNoSched := nofun
    noDataNoDout := nofun
    cryptHasKey := fun _ => hasKey
    setkeyKeepsDout := by rcases crypt with rfl | rfl <;> simp [acceptCrypt]
    fillConsumed := by rcases crypt with rfl | rfl <;> simp [acceptCrypt] }

theorem stateInv_presented {p t : State} (inv : StateInv p) (h : Presented p t) : StateInv t := by
  cases h with
  | unchanged => exact inv
  | refused e => exact stateInv_raiseCmdError inv e
  | setkey idle _ => exact stateInv_acceptSetkey inv idle
  | encrypt _ hasKey _ => exact stateInv_acceptCrypt inv hasKey (.inl rfl)
  | decrypt _ hasKey _ => exact stateInv_acceptCrypt inv hasKey (.inr rfl)

/-- The completion of SETKEY: SCHED is the schedule of the key in KEYIN. -/
theorem stateInv_completeSetkey {s : State} (inv : StateInv s) (pending : s.pend = .setkey) :
    StateInv (completeSetkey s) :=
  { inv with
    busyIffPending := by simp [completeSetkey]
    setkeyClearsKv := nofun
    cryptClearsDv := by simp [completeSetkey]
    noKeyNoSched := nofun
    noDataNoDout := fun noData _ => inv.setkeyKeepsDout pending noData
    cryptHasKey := fun _ => rfl
    setkeyKeepsDout := nofun
    fillConsumed := by simp [completeSetkey]
    schedComplete := fun _ => ⟨keyOperand s, rfl⟩ }

/-- The completion of ENCRYPT or DECRYPT: DV is set, and the key that was accepted is still there. -/
theorem stateInv_deliverBlock {s : State} (inv : StateInv s)
    (pending : s.pend = .encrypt ∨ s.pend = .decrypt) (b : Bytes8) :
    StateInv (deliverBlock b s) := by
  have hasKey : s.kv = true := inv.cryptHasKey pending
  exact { inv with
    busyIffPending := by simp [deliverBlock]
    setkeyClearsKv := nofun
    cryptClearsDv := by simp [deliverBlock]
    noKeyNoSched := fun noKey _ => absurd (hasKey.symm.trans noKey) nofun
    noDataNoDout := nofun
    cryptHasKey := fun _ => hasKey
    setkeyKeepsDout := nofun
    fillConsumed := by simp [deliverBlock] }

theorem stateInv_complete {s : State} (inv : StateInv s) (busy : s.busy = true) :
    StateInv (complete s) := by
  unfold complete
  split
  next pending => exact absurd pending (inv.busyIffPending.mp busy)
  next pending => exact stateInv_completeSetkey inv pending
  next pending => exact stateInv_deliverBlock inv (.inl pending) _
  next pending => exact stateInv_deliverBlock inv (.inr pending) _

/-- Settles O51: each effect a step can have keeps the invariants. -/
theorem everyStepKeepsTheInvariants : Obligations.EveryStepKeepsTheInvariants := by
  unfold Obligations.EveryStepKeepsTheInvariants
  intro s t inv stepped
  have turnTaken : ∀ rest ops, StateInv { s with schedule := rest, host := ops } :=
    fun _ _ => stateInv_run inv ..
  cases step_effect stepped with
  | completed rest moves => exact stateInv_complete (turnTaken rest s.host) moves.1
  | reset => exact stateInv_hardwareReset _
  | passed => exact stateInv_run inv ..
  | busFault => exact stateInv_run inv ..
  | read => exact stateInv_run inv ..
  | polled => exact stateInv_run inv ..
  | presented rest _ ops _ _ _ _ _ shown => exact stateInv_presented (turnTaken rest ops) shown
  | refused e rest ops => exact stateInv_raiseCmdError (turnTaken rest ops) e
  | cleared rest ops => exact stateInv_clearError (turnTaken rest ops)
  | keyHigh rest _ ops idle => exact stateInv_inputs (turnTaken rest ops) idle ..
  | keyLow rest _ ops idle => exact stateInv_inputs (turnTaken rest ops) idle ..
  | dataHigh rest _ ops idle => exact stateInv_inputs (turnTaken rest ops) idle ..
  | dataLow rest _ ops idle => exact stateInv_inputs (turnTaken rest ops) idle ..
  | ignored => exact stateInv_run inv ..

end Sys2Proof.Proofs
end

section
/-! Views of the registers: the subkeys in SCHED and the fields of STATUS (10_state.md R27, R28, R30, R36, R42). -/

namespace Sys2Proof.Proofs

open Sys2Proof.Machine Sys2Proof.Laws

/-! ### SCHED as subkeys -/

/-- R104 joins the two halves of a Halfword again: bit `i` of each of the four bytes is a bit of `h`. -/
theorem fromQuarterWords_halves (h : Halfword) :
    fromQuarterWords (h.extractLsb' 16 16) (h.extractLsb' 0 16) = h := by
  refine BitVec.eq_of_getLsbD_eq fun i hi => ?_
  simp only [fromQuarterWords, unpack16, getLsbD_pack32 _ _ _ _ hi, BitVec.getLsbD_extractLsb']
  grind

theorem scheduleOf_k (sched : Vector Halfword 8) {m : Nat} (hm : m < 16) :
    (scheduleOf sched).k[m] = schedQuarter sched ⟨m, hm⟩ := by
  simp [scheduleOf]

theorem scheduleOf_k_even (sched : Vector Halfword 8) (j : Fin 8) :
    (scheduleOf sched).k[2 * j.val] = sched[j].extractLsb' 16 16 := by
  simp [scheduleOf_k, schedQuarter]

theorem scheduleOf_k_odd (sched : Vector Halfword 8) (j : Fin 8) :
    (scheduleOf sched).k[2 * j.val + 1] = sched[j].extractLsb' 0 16 := by
  have half : (2 * j.val + 1) / 2 = j.val := by omega
  simp [scheduleOf_k, schedQuarter, half]

/-- Two neighbouring subkeys, joined, are the SCHED register they are views of. -/
theorem scheduleOf_k_joined (sched : Vector Halfword 8) (j : Fin 8) :
    fromQuarterWords (scheduleOf sched).k[2 * j.val] (scheduleOf sched).k[2 * j.val + 1] = sched[j] := by
  rw [scheduleOf_k_even, scheduleOf_k_odd, fromQuarterWords_halves]

theorem whiten_scheduleOf (sched : Vector Halfword 8) :
    whiten (scheduleOf sched).k = scheduleOf sched := by
  have joined := scheduleOf_k_joined sched
  show KeySchedule.mk _ _ _ _ _ = KeySchedule.mk _ _ _ _ _
  congr 1
  · exact joined 4
  · exact joined 5
  · exact joined 6
  · exact joined 7

/-- Settles O19: each subkey is its half of SCHED, and neighbouring halves join again. -/
theorem subkeysAreHalvesOfSched : Obligations.SubkeysAreHalvesOfSched := by
  unfold Obligations.SubkeysAreHalvesOfSched
  exact fun sched => ⟨fun j => ⟨scheduleOf_k_even sched j, scheduleOf_k_odd sched j,
    scheduleOf_k_joined sched j⟩, whiten_scheduleOf sched⟩

/-! ### STATUS -/

/-- R30 and R36 bit by bit. -/
theorem getLsbD_statusWord (s : State) (i : Nat) :
    (statusWord s).getLsbD i =
      if i = 0 then s.busy else if i = 1 then s.kv else if i = 2 then s.dv else if i = 3 then s.err
      else if i < 8 then s.errcode.getLsbD (i - 4)
      else if i = 8 then s.kfHi else if i = 9 then s.kfLo else if i = 10 then s.dfHi
      else if i = 11 then s.dfLo else false := by
  simp only [statusWord, flagBit, BitVec.getLsbD_append, BitVec.getLsbD_ofBool,
    BitVec.getLsbD_zero]
  rcases Nat.lt_or_ge i 12 with low | high
  · interval_cases i <;> rfl
  · obtain ⟨k, rfl⟩ := Nat.exists_eq_add_of_le' high
    simp

/-- Settles O37: each field is read off the bits of STATUS. -/
theorem statusWordHasTheStatedFields : Obligations.StatusWordHasTheStatedFields := by
  unfold Obligations.StatusWordHasTheStatedFields
  intro s
  have bit := getLsbD_statusWord s
  refine ⟨bit 0, bit 1, bit 2, bit 3, ?_, bit 8, bit 9, bit 10, bit 11, ?_⟩
  · refine BitVec.eq_of_getLsbD_eq fun i hi => ?_
    rw [BitVec.getLsbD_extractLsb', bit]
    grind
  · refine BitVec.eq_of_getLsbD_eq fun i hi => ?_
    rw [BitVec.getLsbD_extractLsb', bit]
    grind

/-! ### Reset -/

/-- Settles O48: the values are the fields of `State.reset`, and the eight SCHED registers one list. -/
theorem resetHoldsTheStatedValues : Obligations.ResetHoldsTheStatedValues := by
  unfold Obligations.ResetHoldsTheStatedValues
  exact ⟨rfl, rfl, rfl, rfl, rfl, rfl, by decide, rfl, rfl, rfl, rfl, rfl, rfl, rfl, rfl, rfl, rfl,
    rfl, rfl, fun _ => rfl⟩

end Sys2Proof.Proofs
end

section
/-! What each agent's turn leaves unchanged: results, inputs and FAULTED (10_state.md R21 to R29, R41). -/

namespace Sys2Proof.Proofs

open Sys2Proof.Machine Sys2Proof.Laws

/-! ### The frame of a presented command and of a completion -/

/-- Presenting a command reaches only BUSY, PEND, the flags and the error. -/
theorem presented_frame {p t : State} (h : Presented p t) :
    t = { p with
      busy := t.busy, kv := t.kv, dv := t.dv, err := t.err, errcode := t.errcode
      kfHi := t.kfHi, kfLo := t.kfLo, dfHi := t.dfHi, dfLo := t.dfLo, pend := t.pend } := by
  cases h with
  | unchanged => rfl
  | refused e => rw [raiseCmdError_frame]
  | setkey => rfl
  | encrypt => rfl
  | decrypt => rfl

theorem complete_sched_of_ne {s : State} (h : s.pend ≠ .setkey) : (complete s).sched = s.sched := by
  unfold complete
  split
  case h_2 pending => exact absurd pending h
  all_goals rfl

theorem complete_dout_of_ne {s : State} (he : s.pend ≠ .encrypt) (hd : s.pend ≠ .decrypt) :
    (complete s).doutHi = s.doutHi ∧ (complete s).doutLo = s.doutLo := by
  unfold complete
  split
  case h_3 pending => exact absurd pending he
  case h_4 pending => exact absurd pending hd
  all_goals exact ⟨rfl, rfl⟩

/-- SCHED, DOUT and FAULTED over one step: only a completion or a reset reaches SCHED and DOUT, and
only a BusFault reaches FAULTED. -/
theorem step_results {s t : State} (stepped : step s = .next t) :
    (∃ rest, EngineMoves s rest ∧ t = complete { s with schedule := rest }) ∨
    (∃ rest, s.schedule = .reset :: rest ∧ t = hardwareReset { s with schedule := rest }) ∨
    t.sched = s.sched ∧ t.doutHi = s.doutHi ∧ t.doutLo = s.doutLo ∧
      (t.faulted = s.faulted ∨ t.faulted = true) := by
  cases step_effect stepped with
  | completed rest moves => exact .inl ⟨rest, moves, rfl⟩
  | reset rest next => exact .inr (.inl ⟨rest, next, rfl⟩)
  | presented _ _ _ _ _ _ _ _ shown =>
    rw [presented_frame shown]
    exact .inr (.inr ⟨rfl, rfl, rfl, .inl rfl⟩)
  | refused => simp
  | busFault => exact .inr (.inr ⟨rfl, rfl, rfl, .inr rfl⟩)
  | _ => exact .inr (.inr ⟨rfl, rfl, rfl, .inl rfl⟩)

/-- Settles O52: a completion that changes SCHED or DOUT is that of the command that writes it. -/
theorem resultsChangeOnlyAtCompletionOrReset : Obligations.ResultsChangeOnlyAtCompletionOrReset := by
  unfold Obligations.ResultsChangeOnlyAtCompletionOrReset
  intro s t stepped
  rcases step_results stepped with ⟨rest, moves, rfl⟩ | ⟨rest, next, -⟩ | ⟨hs, hh, hl, -⟩
  · refine ⟨fun changed => .inr ⟨⟨rest, moves⟩, ?_⟩, fun changed => .inr ⟨⟨rest, moves⟩, ?_⟩⟩
    · by_contra other
      exact changed (complete_sched_of_ne other)
    · by_contra other
      obtain ⟨he, hd⟩ := not_or.mp other
      obtain ⟨hh, hl⟩ := complete_dout_of_ne (s := { s with schedule := rest }) he hd
      exact changed.elim (absurd hh) (absurd hl)
  · exact ⟨fun _ => .inl ⟨rest, next⟩, fun _ => .inl ⟨rest, next⟩⟩
  · exact ⟨fun changed => absurd hs changed, fun changed => changed.elim (absurd hh) (absurd hl)⟩

/-- Settles O53: of all effects of a step only an idle store and the reset reach an input register. -/
theorem inputsChangeOnlyByIdleHostWritesOrReset :
    Obligations.InputsChangeOnlyByIdleHostWritesOrReset := by
  unfold Obligations.InputsChangeOnlyByIdleHostWritesOrReset
  intro s t stepped changed
  cases step_effect stepped with
  | reset rest next => exact .inl ⟨rest, next⟩
  | keyHigh rest v ops idle issued => exact .inr ⟨idle, rest, _, v, ops, issued, by simp⟩
  | keyLow rest v ops idle issued => exact .inr ⟨idle, rest, _, v, ops, issued, by simp⟩
  | dataHigh rest v ops idle issued => exact .inr ⟨idle, rest, _, v, ops, issued, by simp⟩
  | dataLow rest v ops idle issued => exact .inr ⟨idle, rest, _, v, ops, issued, by simp⟩
  | completed rest => rw [complete_frame] at changed; simp at changed
  | presented _ _ _ _ _ _ _ _ shown => rw [presented_frame shown] at changed; simp at changed
  | _ => simp at changed

/-! ### The host after a BusFault -/

theorem complete_faulted (s : State) : (complete s).faulted = s.faulted := by rw [complete_frame]

theorem step_reset {s : State} {rest : List Slot} (h : s.schedule = .reset :: rest) :
    step s = .next (hardwareReset { s with schedule := rest }) := by
  simp [step, takeTurn, h]

theorem step_faulted_host {s : State} {rest : List Slot} (moves : HostMoves s rest)
    (faulted : s.faulted = true) (left : s.host ≠ []) : step s = .fault .hostStuck := by
  obtain ⟨op, ops, hhost⟩ := List.exists_cons_of_ne_nil left
  simp [step, takeTurn_host moves, hostTurn, hhost, faulted]

/-- Settles O41: the stuck turn, the two agents that still move, and FAULTED over any step. -/
theorem faultedHostIsStuck : Obligations.FaultedHostIsStuck := by
  unfold Obligations.FaultedHostIsStuck
  refine ⟨fun s rest => step_faulted_host, fun s rest moves => ?_, fun s t stepped faulted => ?_⟩
  · rcases moves with moves | next
    · exact ⟨_, step_engine moves, complete_faulted _⟩
    · exact ⟨_, step_reset next, rfl⟩
  · rcases step_results stepped with ⟨rest, -, rfl⟩ | ⟨rest, -, rfl⟩ | ⟨-, -, -, kept | set⟩
    · exact (complete_faulted _).trans faulted
    · exact faulted
    · exact kept.trans faulted
    · exact set

end Sys2Proof.Proofs
end

section
/-! The block beside the run around it (10_state.md R20, 44_command_interface.md R190): turns that begin in one block end in one block. -/

namespace Sys2Proof.Proofs

open Sys2Proof.Machine Sys2Proof.Laws

/-- What a step answers for the turn that is taken. -/
def turnOutcome : Turn → Host.Outcome State Fault Refusal
  | .command i t => exec i t
  | .done t => .next t
  | .stopped f => .fault f

theorem step_eq_turnOutcome (s : State) : step s = turnOutcome (takeTurn s) := by
  unfold step
  cases takeTurn s <;> rfl

/-- Two turns that leave one block, or hand one command over in one block. -/
inductive SameTurn : Turn → Turn → Prop where
  | command (i : Instr) {s u : State} : s.toBlockState = u.toBlockState →
      SameTurn (.command i s) (.command i u)
  | done {s u : State} : s.toBlockState = u.toBlockState → SameTurn (.done s) (.done u)

theorem ite_block {c : Prop} [Decidable c] {s s' u u' : State}
    (h : s.toBlockState = u.toBlockState) (h' : s'.toBlockState = u'.toBlockState) :
    (if c then s else s').toBlockState = (if c then u else u').toBlockState := by
  split
  · exact h
  · exact h'

theorem raiseCmdError_block (e : CmdError) {s u : State} (h : s.toBlockState = u.toBlockState) :
    (raiseCmdError e s).toBlockState = (raiseCmdError e u).toBlockState := by
  simp only [raiseCmdError_frame, h]

theorem unlessBusy_block {s u act act' : State} (h : s.toBlockState = u.toBlockState)
    (hact : act.toBlockState = act'.toBlockState) :
    (unlessBusy s act).toBlockState = (unlessBusy u act').toBlockState := by
  unfold unlessBusy
  rw [h]
  exact ite_block (raiseCmdError_block _ h) hact

theorem presentCrypt_block (p : Pend) {s u : State} (h : s.toBlockState = u.toBlockState) :
    (presentCrypt p s).toBlockState = (presentCrypt p u).toBlockState := by
  obtain ⟨_, _, _, _, rfl⟩ := exists_run_of_block_eq h
  exact unlessBusy_block h
    (ite_block (raiseCmdError_block _ h) (ite_block (raiseCmdError_block _ h) rfl))

theorem exec_block (i : Instr) {s u : State} (h : s.toBlockState = u.toBlockState) :
    ∃ t v, exec i s = .next t ∧ exec i u = .next v ∧ t.toBlockState = v.toBlockState := by
  cases i with
  | nop => exact ⟨_, _, rfl, rfl, unlessBusy_block h h⟩
  | setkey =>
    obtain ⟨_, _, _, _, rfl⟩ := exists_run_of_block_eq h
    exact ⟨_, _, rfl, rfl, unlessBusy_block h (ite_block rfl (raiseCmdError_block _ h))⟩
  | encrypt => exact ⟨_, _, rfl, rfl, presentCrypt_block _ h⟩
  | decrypt => exact ⟨_, _, rfl, rfl, presentCrypt_block _ h⟩

theorem complete_block {s u : State} (h : s.toBlockState = u.toBlockState) :
    (complete s).toBlockState = (complete u).toBlockState := by
  obtain ⟨_, _, _, _, rfl⟩ := exists_run_of_block_eq h
  unfold complete
  cases s.pend <;> rfl

theorem turnOutcome_block {T U : Turn} (h : SameTurn T U) :
    ∃ t v, turnOutcome T = .next t ∧ turnOutcome U = .next v ∧
      t.toBlockState = v.toBlockState := by
  cases h with
  | command i h => exact exec_block i h
  | done h => exact ⟨_, _, rfl, rfl, h⟩

theorem presentCommand_block (w : Word) {s u : State} (h : s.toBlockState = u.toBlockState) :
    SameTurn (presentCommand w s) (presentCommand w u) := by
  unfold presentCommand
  split
  · exact .command _ h
  · exact .done (unlessBusy_block h (raiseCmdError_block _ h))

theorem writeRegister_block (r : Reg) (v : Word) {s u : State}
    (h : s.toBlockState = u.toBlockState) :
    SameTurn (writeRegister r v s) (writeRegister r v u) := by
  obtain ⟨_, _, _, _, rfl⟩ := exists_run_of_block_eq h
  cases r with
  | cmd => exact presentCommand_block v h
  | status => exact .done (ite_block rfl rfl)
  | keyinHi | keyinLo | dinHi | dinLo => exact .done (unlessBusy_block h rfl)
  | doutHi | doutLo | sched | reserved => exact .done h

theorem hostRead_block (off : Offset) (size : Nat) (ops ops' : List HostOp) {s u : State}
    (h : s.toBlockState = u.toBlockState) :
    SameTurn (hostRead off size ops s) (hostRead off size ops' u) := by
  obtain ⟨_, _, _, _, rfl⟩ := exists_run_of_block_eq h
  simp only [hostRead, readRegister_eq]
  split
  · exact .done rfl
  · exact .done rfl

theorem hostWrite_block (off : Offset) (size : Nat) (v : Word) (ops ops' : List HostOp)
    {s u : State} (h : s.toBlockState = u.toBlockState) :
    SameTurn (hostWrite off size v ops s) (hostWrite off size v ops' u) := by
  obtain ⟨_, _, _, _, rfl⟩ := exists_run_of_block_eq h
  unfold hostWrite
  split
  · exact writeRegister_block _ v rfl
  · exact .done rfl

theorem hostTurn_block {s u : State} {op : HostOp} {ops ops' : List HostOp}
    (h : s.toBlockState = u.toBlockState) (free : s.faulted = false)
    (hs : s.host = op :: ops) (hu : u.host = op :: ops') :
    SameTurn (hostTurn s) (hostTurn u) := by
  have free' : u.faulted = false := by rw [← h, free]
  simp only [hostTurn, hs, hu, free, free']
  cases op with
  | read off size => exact hostRead_block off size ops ops' h
  | write off size v => exact hostWrite_block off size v ops ops' h
  | poll => exact .done h

/-- Settles O59: each agent's turn, from two states with one block, does the same to it. -/
theorem theRunAroundTheBlockDoesNotReachIt : Obligations.TheRunAroundTheBlockDoesNotReachIt := by
  unfold Obligations.TheRunAroundTheBlockDoesNotReachIt
  intro s u rest rest' h
  refine ⟨fun op ops ops' issues issues' => ?_, fun moves moves' => ?_, fun next next' => ?_⟩
  · obtain ⟨moves, free, hs⟩ := issues
    obtain ⟨moves', -, hu⟩ := issues'
    rw [step_eq_turnOutcome, step_eq_turnOutcome, takeTurn_host moves, takeTurn_host moves']
    exact turnOutcome_block (hostTurn_block h free hs hu)
  · exact ⟨_, _, step_engine moves, step_engine moves', complete_block h⟩
  · refine ⟨_, _, step_reset next, step_reset next', ?_⟩
    show { State.reset.toBlockState with faulted := s.faulted } = _
    rw [h]
    rfl

end Sys2Proof.Proofs
end

section
/-! The register space (20_memory.md R51 to R54): the register map and its offsets, and the accesses that are not supported. -/

namespace Sys2Proof.Proofs

open Sys2Proof.Machine Sys2Proof.Laws

/-! ### Unsupported accesses -/

theorem supportedAccess_eq_false {off : Offset} {size : Nat} (h : size ≠ 4 ∨ off.toNat % 4 ≠ 0) :
    supportedAccess off size = false := by
  simp only [supportedAccess, Config.accessBytes, Bool.and_eq_false_iff, beq_eq_false_iff_ne]
  exact h

theorem hostRead_unsupported {off : Offset} {size : Nat} (h : supportedAccess off size = false)
    (ops : List HostOp) (s : State) :
    hostRead off size ops s = .done { s with faulted := true } := by
  rw [hostRead, h]
  rfl

theorem hostWrite_unsupported {off : Offset} {size : Nat} (h : supportedAccess off size = false)
    (v : Word) (ops : List HostOp) (s : State) :
    hostWrite off size v ops s = .done { s with faulted := true } := by
  rw [hostWrite, h]
  rfl

/-- Settles O40: the check of R52 fails before the register map is asked, in a read as in a write. -/
theorem unsupportedAccessesAreBusFaults : Obligations.UnsupportedAccessesAreBusFaults := by
  unfold Obligations.UnsupportedAccessesAreBusFaults
  intro s rest off size v ops wrong issues
  have unsupported := supportedAccess_eq_false wrong
  rcases issues with reads | writes
  · simp only [step_issue reads, hostRead_unsupported unsupported]
  · simp only [step_issue writes, hostWrite_unsupported unsupported]

/-! ### The register map -/

theorem regAt_regOffset (r : Reg) : regAt (regOffset r) = r := by
  cases r with
  | sched j => revert j; decide
  | _ => rfl

theorem regOffset_aligned (r : Reg) : (regOffset r).toNat % 4 = 0 := by
  cases r with
  | sched j => revert j; decide
  | _ => rfl

/-- The 16 words below 0x40 are the named registers. -/
theorem regOffset_regAt {off : Offset} (aligned : off.toNat % 4 = 0) (named : off.toNat < 0x40) :
    regOffset (regAt off) = off := by
  have eachWord : ∀ k : Fin 16,
      regOffset (regAt (BitVec.ofNat 8 (4 * k.val))) = BitVec.ofNat 8 (4 * k.val) := by decide
  have offWord : BitVec.ofNat 8 (4 * (off.toNat / 4)) = off := by
    rw [Nat.mul_div_cancel' (Nat.dvd_of_mod_eq_zero aligned), BitVec.ofNat_toNat,
      BitVec.setWidth_eq]
  have at_off := eachWord ⟨off.toNat / 4, by omega⟩
  rwa [offWord] at at_off

theorem regAt_reserved {off : Offset} (above : 0x40 ≤ off.toNat) : regAt off = .reserved := by
  unfold regAt
  split
  case h_17 => rfl
  all_goals omega

/-- Settles O46: `regAt` undoes `regOffset`, and `regOffset` undoes `regAt` below 0x40. -/
theorem registerMapIsOneToOneOnTheNamedOffsets :
    Obligations.RegisterMapIsOneToOneOnTheNamedOffsets := by
  unfold Obligations.RegisterMapIsOneToOneOnTheNamedOffsets
  exact ⟨fun r => ⟨regAt_regOffset r, regOffset_aligned r⟩,
    fun _ aligned => ⟨regOffset_regAt aligned, regAt_reserved⟩⟩

end Sys2Proof.Proofs
end

section
/-! Command words (30_encoding.md R70 to R77): the fields of a word, what decodes to what, and the turns in which the host presents a word or polls. -/

namespace Sys2Proof.Proofs

open Sys2Proof.Machine Sys2Proof.Laws

/-! ### The fields of a command word -/

theorem rsvField_append_opField (w : Word) : rsvField w ++ opField w = w := by
  rw [rsvField, opField, BitVec.extractLsb'_append_extractLsb'_eq_extractLsb' (by decide),
    BitVec.extractLsb'_eq_self]

theorem toNat_opField (w : Word) : (opField w).toNat = w.toNat % 16 := by
  simp [opField]

theorem rsvField_eq_zero_iff (w : Word) : rsvField w = 0 ↔ w.toNat < 16 := by
  have hw : w.toNat < 2 ^ 32 := w.isLt
  rw [rsvField, ← BitVec.toNat_inj, BitVec.extractLsb'_toNat, Nat.shiftRight_eq_div_pow]
  simp only [BitVec.ofNat_eq_ofNat, BitVec.toNat_ofNat]
  omega

/-- A word is the command word of `i` exactly when its RSV is 0 and its OP is that of `i` (R75). -/
theorem eq_encode_iff (w : Word) (i : Instr) :
    w = encode i ↔ rsvField w = 0 ∧ opField w = opCode i := by
  constructor
  · rintro rfl
    cases i <;> decide
  · rintro ⟨rsv, op⟩
    rw [← rsvField_append_opField w, rsv, op]
    rfl

/-! ### Decoding -/

theorem decodeOp_eq_ok_iff (op : BitVec 4) (i : Instr) : decodeOp op = .ok i ↔ op = opCode i := by
  cases i <;> revert op <;> decide

theorem decodeOp_reserved {op : BitVec 4} (reserved : 4 ≤ op.toNat) :
    decodeOp op = .error .reservedOp := by
  revert op; decide

theorem decode_of_rsv_ne {w : Word} (h : rsvField w ≠ 0) : decode w = .error .reservedBits :=
  if_neg h

theorem decode_of_rsv_zero {w : Word} (h : rsvField w = 0) : decode w = decodeOp (opField w) :=
  if_pos h

/-- The one description of which words decode: `encode i` and no other word decodes to `i`. -/
theorem decode_eq_ok_iff (w : Word) (i : Instr) : decode w = .ok i ↔ w = encode i := by
  rw [eq_encode_iff]
  by_cases rsv : rsvField w = 0
  · simp only [decode_of_rsv_zero rsv, decodeOp_eq_ok_iff, rsv, true_and]
  · simp only [decode_of_rsv_ne rsv, rsv, false_and, reduceCtorEq]

@[simp] theorem decode_encode (i : Instr) : decode (encode i) = .ok i :=
  (decode_eq_ok_iff _ i).mpr rfl

theorem decode_reservedOp {w : Word} (low : 4 ≤ w.toNat) (high : w.toNat ≤ 15) :
    decode w = .error .reservedOp := by
  rw [decode_of_rsv_zero ((rsvField_eq_zero_iff w).mpr (by omega))]
  exact decodeOp_reserved (by rw [toNat_opField]; omega)

/-- Settles O2: the mask keeps the whole word, so a word matches exactly when it is the encoding. -/
theorem decodeSelectsExactlyTheMatchingWord : Obligations.DecodeSelectsExactlyTheMatchingWord := by
  unfold Obligations.DecodeSelectsExactlyTheMatchingWord
  refine ⟨by decide, fun i _ => decode_encode i, fun i w => ?_, fun _ => decode_reservedOp⟩
  have masked : w &&& 0xFFFFFFFF#32 = w := BitVec.and_allOnes
  rw [masked, decode_eq_ok_iff]

theorem decodeTableWord_encode (i : Instr) : decodeTableWord 32 (encode i).toNat = some i := by
  have fits : 32 ≤ 32 ∧ (encode i).toNat < 2 ^ 32 := ⟨le_rfl, (encode i).isLt⟩
  rw [decodeTableWord, if_pos fits, BitVec.ofNat_toNat, BitVec.setWidth_eq, decode_encode]

/-- Settles O1: the four words are the encodings of the four commands. -/
theorem tableWordsDecodeToTheirCommands : Obligations.TableWordsDecodeToTheirCommands := by
  unfold Obligations.TableWordsDecodeToTheirCommands
  exact ⟨decodeTableWord_encode .nop, decodeTableWord_encode .setkey,
    decodeTableWord_encode .encrypt, decodeTableWord_encode .decrypt,
    decode_encode .nop, decode_encode .setkey, decode_encode .encrypt, decode_encode .decrypt⟩

/-! ### Well-formed words -/

theorem wellFormedWord_iff (w : Word) : wellFormedWord w = true ↔ w.toNat < 4 := by
  simp only [wellFormedWord, rsvClear, opAssigned, Bool.and_eq_true, beq_iff_eq, decide_eq_true_eq,
    ← BitVec.toNat_inj, BitVec.toNat_ushiftRight, Nat.shiftRight_eq_div_pow, BitVec.ofNat_eq_ofNat,
    BitVec.toNat_ofNat]
  omega

theorem toNat_lt_four_iff (w : Word) : w.toNat < 4 ↔ ∃ i : Instr, w = encode i := by
  constructor
  · intro small
    obtain rfl | rfl | rfl | rfl : w = 0#32 ∨ w = 1#32 ∨ w = 2#32 ∨ w = 3#32 := by bv_omega
    · exact ⟨.nop, rfl⟩
    · exact ⟨.setkey, rfl⟩
    · exact ⟨.encrypt, rfl⟩
    · exact ⟨.decrypt, rfl⟩
  · rintro ⟨i, rfl⟩
    cases i <;> decide

/-- Settles O4: both checks accept exactly the four words below 4. -/
theorem wellFormedWordsAreTheOnesThatDecode : Obligations.WellFormedWordsAreTheOnesThatDecode := by
  unfold Obligations.WellFormedWordsAreTheOnesThatDecode
  intro w
  simp only [wellFormedWord_iff, decode_eq_ok_iff, toNat_lt_four_iff]

/-! ### Presenting a word to CMD -/

/-- A 32-bit host write to CMD presents the word (R193). -/
theorem step_presentCommand {s : State} {rest : List Slot} {w : Word} {ops : List HostOp}
    (issues : HostIssues s rest (.write 0x00#8 4 w) ops) :
    step s = turnOutcome (presentCommand w { s with schedule := rest, host := ops }) := by
  obtain ⟨moves, free, queued⟩ := issues
  rw [step_eq_turnOutcome, takeTurn_host moves]
  simp only [hostTurn, queued, free]
  rfl

/-- While BUSY = 1 every command is refused with PROTO (R193). -/
theorem exec_busy (i : Instr) {s : State} (busy : s.busy = true) :
    exec i s = .next (raiseCmdError .proto s) := by
  cases i <;> exact congrArg _ (unlessBusy_busy busy)

/-- While BUSY = 1 every word is refused with PROTO, legal or not (R225). -/
theorem presentCommand_busy (w : Word) {s : State} (busy : s.busy = true) :
    turnOutcome (presentCommand w s) = .next (raiseCmdError .proto s) := by
  unfold presentCommand
  split
  · exact exec_busy _ busy
  · exact congrArg _ (unlessBusy_busy busy)

theorem presentCommand_illegal {w : Word} {e : DecodeReject} {s : State} (idle : s.busy = false)
    (illegal : decode w = .error e) :
    turnOutcome (presentCommand w s) = .next (raiseCmdError .illegal s) := by
  simp only [presentCommand, illegal, unlessBusy_idle idle, turnOutcome]

/-- Settles O3: decoding splits on RSV, and the presented word's refusal on BUSY. -/
theorem decodeIsTotalAndIllegalWordsAreRefused :
    Obligations.DecodeIsTotalAndIllegalWordsAreRefused := by
  unfold Obligations.DecodeIsTotalAndIllegalWordsAreRefused
  refine ⟨fun w => ⟨decode_of_rsv_ne, decode_of_rsv_zero⟩, fun s rest w ops issues => ⟨?_, ?_⟩⟩
  · rintro idle ⟨e, illegal⟩
    exact (step_presentCommand issues).trans (presentCommand_illegal idle illegal)
  · intro busy
    exact (step_presentCommand issues).trans (presentCommand_busy w busy)

/-! ### Polling -/

/-- Settles O39: the bit that POLL tests is BUSY. -/
theorem pollRepeatsWhileBusy : Obligations.PollRepeatsWhileBusy := by
  unfold Obligations.PollRepeatsWhileBusy
  intro s rest ops issues
  have bit0 : (statusWord s).getLsbD 0 = s.busy := getLsbD_statusWord s 0
  rw [step_issue issues]
  obtain ⟨-, -, atPoll⟩ := issues
  rw [← bit0, ← atPoll]
  rfl

end Sys2Proof.Proofs
end

section
/-! Packing (40_conversion.md R100 to R110): bytes, QuarterWords, Halfwords and the 64-bit scalar view, all most significant byte first. -/

namespace Sys2Proof.Proofs

open Sys2Proof.Machine

/-! ### Packing is concatenation -/

theorem pack32_eq_append (b0 b1 b2 b3 : Byte) : pack32 b0 b1 b2 b3 = b0 ++ b1 ++ b2 ++ b3 := by
  rw [← BitVec.setWidth_eq (b0 ++ b1 ++ b2 ++ b3),
    BitVec.setWidth_append_append_append_eq_shiftLeft_setWidth_or]
  rfl

theorem pack16_eq_append (b0 b1 : Byte) : pack16 b0 b1 = b0 ++ b1 := by
  rw [← BitVec.setWidth_eq (b0 ++ b1), BitVec.setWidth_append_eq_shiftLeft_setWidth_or]
  rfl

theorem pack32_eq_pack16_append (b0 b1 b2 b3 : Byte) :
    pack32 b0 b1 b2 b3 = pack16 b0 b1 ++ pack16 b2 b3 := by
  rw [pack32_eq_append, pack16_eq_append, pack16_eq_append, BitVec.append_assoc']
  rfl

/-! ### Packing and unpacking -/

@[simp] theorem pack32_unpack32 (h : Halfword) :
    pack32 (unpack32 h).1 (unpack32 h).2.1 (unpack32 h).2.2.1 (unpack32 h).2.2.2 = h := by
  have bytes01 : h.extractLsb' 24 8 ++ h.extractLsb' 16 8 = h.extractLsb' 16 16 :=
    BitVec.extractLsb'_append_extractLsb'_eq_extractLsb' rfl
  have bytes012 : h.extractLsb' 16 16 ++ h.extractLsb' 8 8 = h.extractLsb' 8 24 :=
    BitVec.extractLsb'_append_extractLsb'_eq_extractLsb' rfl
  have bytes0123 : h.extractLsb' 8 24 ++ h.extractLsb' 0 8 = h :=
    BitVec.extractLsb'_append_extractLsb'
  rw [pack32_eq_append]
  simp only [unpack32]
  rw [bytes01, bytes012, bytes0123]

@[simp] theorem pack16_unpack16 (q : QuarterWord) :
    pack16 (unpack16 q).1 (unpack16 q).2 = q := by
  rw [pack16_eq_append]
  exact BitVec.extractLsb'_append_extractLsb'

@[simp] theorem unpack16_pack16 (b0 b1 : Byte) : unpack16 (pack16 b0 b1) = (b0, b1) := by
  rw [pack16_eq_append]
  exact Prod.ext BitVec.extractLsb'_append_eq_left BitVec.extractLsb'_append_eq_right

@[simp] theorem unpack32_pack32 (b0 b1 b2 b3 : Byte) :
    unpack32 (pack32 b0 b1 b2 b3) = (b0, b1, b2, b3) := by
  have byte3 : (b0 ++ b1 ++ b2 ++ b3).extractLsb' 0 8 = b3 := BitVec.extractLsb'_append_eq_right
  have byte2 : (b0 ++ b1 ++ b2 ++ b3).extractLsb' 8 8 = b2 := by
    rw [BitVec.extractLsb'_append_eq_of_le le_rfl, BitVec.extractLsb'_append_eq_right]
  have byte1 : (b0 ++ b1 ++ b2 ++ b3).extractLsb' 16 8 = b1 := by
    rw [BitVec.extractLsb'_append_eq_of_le (by decide), BitVec.extractLsb'_append_eq_of_le le_rfl,
      BitVec.extractLsb'_append_eq_right]
  have byte0 : (b0 ++ b1 ++ b2 ++ b3).extractLsb' 24 8 = b0 := by
    rw [BitVec.extractLsb'_append_eq_of_le (by decide),
      BitVec.extractLsb'_append_eq_of_le (by decide), BitVec.extractLsb'_append_eq_left]
  rw [pack32_eq_append]
  exact Prod.ext byte0 (Prod.ext byte1 (Prod.ext byte2 byte3))

/-- Settles O6: packing concatenates the fields that unpacking reads. -/
theorem packingFunctionsAreMutualInverses : Obligations.PackingFunctionsAreMutualInverses := by
  unfold Obligations.PackingFunctionsAreMutualInverses
  exact ⟨pack32_unpack32, unpack32_pack32, pack16_unpack16, unpack16_pack16⟩

/-- R104: a Halfword's bytes are those of its two QuarterWords. -/
theorem fromQuarterWords_eq_append (q0 q1 : QuarterWord) : fromQuarterWords q0 q1 = q0 ++ q1 := by
  rw [fromQuarterWords, pack32_eq_pack16_append, pack16_unpack16, pack16_unpack16]

/-- Settles O7: each shift-and-or is a concatenation; `unpack32` is the four fields by definition. -/
theorem packingIsBigEndianConcatenation : Obligations.PackingIsBigEndianConcatenation := by
  unfold Obligations.PackingIsBigEndianConcatenation
  exact ⟨pack32_eq_append, pack16_eq_append, fromQuarterWords_eq_append, fun _ => rfl⟩

/-! ### Splitting and joining -/

@[simp] theorem split_join (h0 h1 : Halfword) : split (join h0 h1) = (h0, h1) :=
  Prod.ext (pack32_unpack32 h0) (pack32_unpack32 h1)

@[simp] theorem join_split (x : Bytes8) : join (split x).1 (split x).2 = x := by
  simp only [join, split, unpack32_pack32]

/-- Settles O8: both halves of an 8-byte unit are packed and unpacked as Halfwords. -/
theorem splitAndJoinAreInverses : Obligations.SplitAndJoinAreInverses := by
  unfold Obligations.SplitAndJoinAreInverses
  exact ⟨split_join, join_split⟩

/-! ### The 64-bit scalar view -/

/-- R56: the scalar of the bytes of two registers is the two registers, side by side. -/
@[simp] theorem toScalar_join (h0 h1 : Halfword) : toScalar (join h0 h1) = h0 ++ h1 := by
  rw [toScalar, split_join]

theorem append_pack32 (h : Halfword) (b0 b1 b2 b3 : Byte) :
    h ++ pack32 b0 b1 b2 b3 = h ++ b0 ++ b1 ++ b2 ++ b3 :=
  calc
    h ++ pack32 b0 b1 b2 b3 = h ++ (b0 ++ b1 ++ b2 ++ b3) := by rw [pack32_eq_append]
    _ = h ++ (b0 ++ b1 ++ b2) ++ b3 := BitVec.append_assoc'
    _ = h ++ (b0 ++ b1) ++ b2 ++ b3 := congrArg (· ++ b3) BitVec.append_assoc'
    _ = h ++ b0 ++ b1 ++ b2 ++ b3 := congrArg (· ++ b2 ++ b3) BitVec.append_assoc'

theorem toScalar_eq_append (x : Bytes8) :
    toScalar x = x.b0 ++ x.b1 ++ x.b2 ++ x.b3 ++ x.b4 ++ x.b5 ++ x.b6 ++ x.b7 := by
  rw [toScalar, split, append_pack32, pack32_eq_append]

@[simp] theorem ofScalar_append (h0 h1 : Halfword) : ofScalar (h0 ++ h1) = join h0 h1 :=
  congrArg₂ join BitVec.extractLsb'_append_eq_left BitVec.extractLsb'_append_eq_right

@[simp] theorem ofScalar_toScalar (x : Bytes8) : ofScalar (toScalar x) = x := by
  rw [toScalar, ofScalar_append, join_split]

@[simp] theorem toScalar_ofScalar (v : Scalar64) : toScalar (ofScalar v) = v := by
  rw [ofScalar, toScalar_join]
  exact BitVec.extractLsb'_append_extractLsb'

/-- Settles O9: scalars and 8-byte units go through the same two Halfwords, which for a register
pair are the registers. -/
theorem scalarViewIsBigEndian : Obligations.ScalarViewIsBigEndian := by
  unfold Obligations.ScalarViewIsBigEndian
  refine ⟨fun x => ⟨toScalar_eq_append x, ofScalar_toScalar x⟩, toScalar_ofScalar, fun x => ?_,
    fun v => ?_, fun s => ⟨?_, ?_, ?_⟩⟩
  · exact Prod.ext (ofScalar_toScalar x.1) (ofScalar_toScalar x.2)
  · exact Prod.ext (toScalar_ofScalar v.1) (toScalar_ofScalar v.2)
  · exact (toScalar_join s.keyinHi s.keyinLo).symm
  · exact (toScalar_join s.dinHi s.dinLo).symm
  · exact (toScalar_join s.doutHi s.doutLo).symm

end Sys2Proof.Proofs
end

section
/-! The round-function unit (41_round_function.md R120 to R125): the rotation, the two byte combiners, and the round function on the bytes of its operands. -/

namespace Sys2Proof.Proofs

open Sys2Proof.Machine

/-! ### The rotation -/

/-- Amounts of rotation add up. -/
theorem rotateLeft_rotateLeft {w : Nat} (x : BitVec w) (m n : Nat) :
    (x.rotateLeft m).rotateLeft n = x.rotateLeft (m + n) := by
  refine BitVec.eq_of_getMsbD_eq fun i hi => ?_
  have hw : 0 < w := by omega
  simp only [BitVec.getMsbD_rotateLeft, Nat.mod_lt _ hw, hi, decide_true, Bool.true_and,
    Nat.add_mod_mod, Nat.add_assoc]

theorem rotateLeft_width {w : Nat} (x : BitVec w) : x.rotateLeft w = x := by
  refine BitVec.eq_of_getMsbD_eq fun i hi => ?_
  simp only [BitVec.getMsbD_rotateLeft, Nat.add_mod_left, Nat.mod_eq_of_lt hi, hi, decide_true,
    Bool.true_and]

/-- R120: on 10 bits no bit of `v` is lost by the shift, and the mask keeps bits 7:0. -/
theorem rot2_eq_rotateLeft (v : Byte) : rot2 v = v.rotateLeft 2 := by
  have shifted : (v.setWidth 10 <<< 2).setWidth 8 = v <<< 2 := by
    rw [BitVec.setWidth_shiftLeft_of_le (by decide), BitVec.setWidth_setWidth_of_le _ (by decide),
      BitVec.setWidth_eq]
  have wrapped : (v.setWidth 10 >>> 6).setWidth 8 = v >>> 6 := by
    apply BitVec.eq_of_toNat_eq
    simp only [BitVec.toNat_setWidth, BitVec.toNat_ushiftRight, Nat.shiftRight_eq_div_pow]
    omega
  have mask : (0xFF#10).setWidth 8 = BitVec.allOnes 8 := rfl
  rw [rot2, BitVec.setWidth_and, BitVec.setWidth_or, shifted, wrapped, mask, BitVec.and_allOnes]
  rfl

theorem rot2_eq_append (v : Byte) : rot2 v = v.extractLsb' 0 6 ++ v.extractLsb' 6 2 := by
  rw [rot2_eq_rotateLeft]
  refine BitVec.eq_of_getLsbD_eq fun i hi => ?_
  rw [BitVec.getLsbD_rotateLeft_of_le (by decide), BitVec.getLsbD_append]
  by_cases low : i < 2
  · simp [low]
  · have high : i - 2 < 6 := by omega
    simp [low, hi, high]

theorem rot2_four_times (v : Byte) : rot2 (rot2 (rot2 (rot2 v))) = v := by
  simp only [rot2_eq_rotateLeft, rotateLeft_rotateLeft]
  exact rotateLeft_width v

theorem rot2_bijective : Function.Bijective rot2 :=
  Function.bijective_iff_has_inverse.mpr
    ⟨fun v => rot2 (rot2 (rot2 v)), rot2_four_times, rot2_four_times⟩

/-- Settles O10: `rot2` is the rotation by 2, so three more applications undo it. -/
theorem rot2RotatesLeftByTwo : Obligations.Rot2RotatesLeftByTwo := by
  unfold Obligations.Rot2RotatesLeftByTwo
  exact ⟨fun v => ⟨rot2_eq_append v, rot2_eq_rotateLeft v, rot2_four_times v⟩, rot2_bijective,
    by decide⟩

/-! ### The rotation by table -/

/-- The formula's values for `n` bytes in order, from `start`. -/
def rot2Values (start n : Nat) : List Byte :=
  (List.range' start n).map fun v => rot2 (BitVec.ofNat 8 v)

theorem rot2Values_append (m n : Nat) :
    rot2Values 0 m ++ rot2Values m n = rot2Values 0 (m + n) := by
  simp only [rot2Values, ← List.map_append, ← List.range'_append_1, Nat.zero_add]

/-- R123: the table lists the formula's values in the order of the bytes, four rows at a time. -/
theorem rot2Table_eq_rot2Values : rot2Table = rot2Values 0 256 := by
  have rows0to3 : rot2Rows0to3 = rot2Values 0 64 := rfl
  have rows4to7 : rot2Rows4to7 = rot2Values 64 64 := rfl
  have rows8toB : rot2Rows8toB = rot2Values 128 64 := rfl
  have rowsCtoF : rot2RowsCtoF = rot2Values 192 64 := rfl
  rw [rot2Table, rows0to3, rows4to7, rows8toB, rowsCtoF, rot2Values_append, rot2Values_append,
    rot2Values_append]

theorem length_rot2Table : rot2Table.length = 256 := by
  rw [rot2Table_eq_rot2Values, rot2Values, List.length_map, List.length_range']

theorem rot2Lookup_eq_rot2 (v : Byte) : rot2Lookup v = rot2 v := by
  have inRange : v.toNat < 256 := v.isLt
  simp [rot2Lookup, rot2Table_eq_rot2Values, rot2Values, inRange]

/-- Settles O12: the table is the list of the 256 values of the formula. -/
theorem lookupTableEqualsTheFormula : Obligations.LookupTableEqualsTheFormula := by
  unfold Obligations.LookupTableEqualsTheFormula
  exact ⟨length_rot2Table, rot2Lookup_eq_rot2⟩

/-! ### The byte combiners -/

/-- R121: the byte sum is the sum of the naturals, reduced. -/
theorem s0_eq_rot2_mod (x1 x2 : Byte) :
    s0 x1 x2 = rot2 (BitVec.ofNat 8 ((x1.toNat + x2.toNat) % 256)) := by
  rw [← BitVec.toNat_add, BitVec.ofNat_toNat, BitVec.setWidth_eq, s0]

theorem s1_eq_rot2_mod (x1 x2 : Byte) :
    s1 x1 x2 = rot2 (BitVec.ofNat 8 ((x1.toNat + x2.toNat + 1) % 256)) := by
  have sum : (x1 + x2 + 1#8).toNat = (x1.toNat + x2.toNat + 1) % 256 := by
    simp only [BitVec.toNat_add, BitVec.toNat_ofNat, Nat.mod_add_mod]
  rw [← sum, BitVec.ofNat_toNat, BitVec.setWidth_eq, s1]

theorem s0_comm (x1 x2 : Byte) : s0 x1 x2 = s0 x2 x1 :=
  congrArg rot2 (BitVec.add_comm x1 x2)

/-- R122: the added 1 may go to the first operand. -/
theorem s1_eq_s0_add_one (x1 x2 : Byte) : s1 x1 x2 = s0 (x1 + 1#8) x2 :=
  congrArg rot2 (add_right_comm x1 x2 1#8)

theorem s1_comm (x1 x2 : Byte) : s1 x1 x2 = s1 x2 x1 :=
  congrArg (fun sum => rot2 (sum + 1#8)) (BitVec.add_comm x1 x2)

/-- Settles O11: addition of bytes is addition modulo 256, and it is commutative. -/
theorem byteCombinersAddModulo256 : Obligations.ByteCombinersAddModulo256 := by
  unfold Obligations.ByteCombinersAddModulo256
  exact fun x1 x2 => ⟨s0_eq_rot2_mod x1 x2, s1_eq_rot2_mod x1 x2, s0_comm x1 x2, s1_comm x1 x2,
    s1_eq_s0_add_one x1 x2⟩

/-! ### The round function -/

/-- Settles O13: the operands unpack to the bytes they were packed from. -/
theorem roundFunctionOnBytes : Obligations.RoundFunctionOnBytes := by
  unfold Obligations.RoundFunctionOnBytes
  rintro a0 a1 a2 a3 b0 b1 _ _ _ _ rfl rfl rfl rfl
  simp only [roundF, unpack32_pack32, unpack16_pack16]

/-- R125: the bytes of a zero subkey drop out of every XOR, on both sides. -/
theorem roundF_zero_eq_fk_zero (a : Halfword) : roundF a 0x0000#16 = fk a 0x00000000#32 := by
  have bytes16 : unpack16 0x0000#16 = (0, 0) := rfl
  have bytes32 : unpack32 0x00000000#32 = (0, 0, 0, 0) := rfl
  simp only [roundF, fk, bytes16, bytes32, BitVec.ofNat_eq_ofNat, BitVec.xor_zero]

/-- Settles O15: with a zero second operand the two formulas become one. -/
theorem roundFunctionAndKeyCombinerAgreeAtZero :
    Obligations.RoundFunctionAndKeyCombinerAgreeAtZero := by
  unfold Obligations.RoundFunctionAndKeyCombinerAgreeAtZero
  exact ⟨roundF_zero_eq_fk_zero, by decide⟩

end Sys2Proof.Proofs
end

section
/-! The key schedule (42_key_schedule.md R140 to R147): the combiner on bytes, the loop's outputs and their views as subkeys, the command SETKEY, and the frame of every presented command. -/

namespace Sys2Proof.Proofs

open Sys2Proof.Machine Sys2Proof.Laws

/-! ### The combiner -/

/-- Settles O14: the operands unpack to the bytes they were packed from. -/
theorem keyCombinerOnBytes : Obligations.KeyCombinerOnBytes := by
  unfold Obligations.KeyCombinerOnBytes
  rintro a0 a1 a2 a3 b0 b1 b2 b3 _ _ _ _ rfl rfl rfl rfl
  simp only [fk, unpack32_pack32]

/-! ### The loop -/

/-- R142: output `i` is the `B` of the loop after `i + 1` iterations. -/
theorem getElem_ksOutputs {n i : Nat} (x : KsState) (hi : i < (ksOutputs n x).length) :
    (ksOutputs n x)[i] = (ksStep^[i + 1] x).b := by
  induction n generalizing x i with
  | zero => exact absurd hi (Nat.not_lt_zero i)
  | succ n ih =>
    cases i with
    | zero => rfl
    | succ i => exact ih (ksStep x) _

theorem getElem_fkOutputs (key : Bytes8) {i : Nat} (hi : i < 8) :
    (fkOutputs key)[i] = (ksStep^[i + 1] (ksInit key)).b :=
  getElem_ksOutputs (n := 8) (ksInit key) _

/-- R141 over three iterations: by then `A` and `D` are earlier values of `B`. -/
theorem ksStep_b_after_three (x : KsState) :
    (ksStep (ksStep (ksStep x))).b =
      fk (ksStep x).b ((ksStep (ksStep x)).b ^^^ x.b) :=
  rfl

/-- Settles O17: the first outputs read the halves of the key, each later one three outputs. -/
theorem scheduleObeysTheRecurrence : Obligations.ScheduleObeysTheRecurrence := by
  unfold Obligations.ScheduleObeysTheRecurrence
  refine fun key => ⟨?_, rfl, rfl, fun j hj => ?_⟩
  · exact congrArg (fk (split key).1) BitVec.xor_zero
  · simp only [getElem_fkOutputs, Function.iterate_succ_apply']
    exact ksStep_b_after_three _

/-! ### The subkeys -/

/-- R143: the emitted subkeys are the two halves of the output. -/
theorem emit_eq_halves (b : Halfword) : emit b = (b.extractLsb' 16 16, b.extractLsb' 0 16) := by
  simp only [emit, unpack32, pack16_eq_append]
  exact Prod.ext (BitVec.extractLsb'_append_extractLsb'_eq_extractLsb' rfl)
    (BitVec.extractLsb'_append_extractLsb'_eq_extractLsb' rfl)

/-- The emitted subkeys in order: the high half of an output has the even index. -/
theorem getElem_emitAll (bs : List Halfword) {m : Nat} (hm : m < (emitAll bs).length)
    (hj : m / 2 < bs.length) :
    (emitAll bs)[m] =
      if m % 2 = 0 then bs[m / 2].extractLsb' 16 16 else bs[m / 2].extractLsb' 0 16 := by
  induction bs generalizing m with
  | nil => exact absurd hm (Nat.not_lt_zero m)
  | cons b bs ih =>
    match m with
    | 0 => exact congrArg Prod.fst (emit_eq_halves b)
    | 1 => exact congrArg Prod.snd (emit_eq_halves b)
    | m + 2 =>
      simp only [Nat.add_div_right m two_pos, Nat.add_mod_right, List.getElem_cons_succ, emitAll]
      exact ih _ _

/-- R145: the subkeys viewed in the stored outputs are the emitted ones. -/
theorem scheduleOf_fkOutputs_k (key : Bytes8) :
    (scheduleOf (fkOutputs key)).k = deriveSubkeys key := by
  refine Vector.ext fun m hm => ?_
  rw [scheduleOf_k _ hm]
  exact (getElem_emitAll _ _ _).symm

/-- Settles O18: the subkeys agree, and both sides take the whitening from their subkeys. -/
theorem storedOutputsAreTheDerivedSchedule : Obligations.StoredOutputsAreTheDerivedSchedule := by
  unfold Obligations.StoredOutputsAreTheDerivedSchedule
  intro key
  rw [deriveSchedule, ← scheduleOf_fkOutputs_k, whiten_scheduleOf]

/-! ### SETKEY -/

theorem exec_setkey_accepted {s : State} (idle : s.busy = false) (filled : keyFilled s = true) :
    exec .setkey s = .next (acceptSetkey s) := by
  simp [exec, execSetkey_eq, idle, filled]

/-- The engine's step that ends a pending SETKEY (R147, R200). -/
theorem step_completeSetkey {s : State} {rest : List Slot} (moves : EngineMoves s rest)
    (pending : s.pend = .setkey) :
    step s = .next (completeSetkey { s with schedule := rest }) := by
  rw [step_engine moves]
  simp only [complete, pending]

/-- Settles O28: acceptance, and then the completion of what was accepted; KEYIN is still that of `s`. -/
theorem setkeyDerivesAndLoadsTheSchedule : Obligations.SetkeyDerivesAndLoadsTheSchedule := by
  unfold Obligations.SetkeyDerivesAndLoadsTheSchedule
  intro s idle filledHi filledLo
  have filled : keyFilled s = true := by rw [keyFilled, filledHi, filledLo, Bool.and_self]
  exact ⟨acceptSetkey s, exec_setkey_accepted idle filled, rfl,
    fun _ moves => step_completeSetkey moves rfl⟩

/-! ### The frame of presenting a command -/

theorem presented_of_exec {i : Instr} {s t : State} (answered : exec i s = .next t) :
    Presented s t := by
  obtain ⟨u, answer, shown⟩ := exec_presented i s
  cases answer.symm.trans answered
  exact shown

/-- What each command does to the state that accepts it (R147, R167, R171, R194). -/
def acceptCommand : Instr → State → State
  | .nop, s => s
  | .setkey, s => acceptSetkey s
  | .encrypt, s => acceptCrypt .encrypt s
  | .decrypt, s => acceptCrypt .decrypt s

theorem presentCrypt_accepted_or_refused (p : Pend) (s : State) :
    presentCrypt p s = acceptCrypt p s ∨ ∃ e, presentCrypt p s = raiseCmdError e s := by
  rw [presentCrypt_eq]
  split; · exact .inr ⟨_, rfl⟩
  split; · exact .inr ⟨_, rfl⟩
  split; · exact .inr ⟨_, rfl⟩
  exact .inl rfl

/-- `exec` answers with the command's own acceptance, or with a refusal (R193). -/
theorem exec_accepted_or_refused {i : Instr} {s t : State} (answered : exec i s = .next t) :
    t = acceptCommand i s ∨ ∃ e, t = raiseCmdError e s := by
  cases i with
  | nop =>
    cases answered
    unfold unlessBusy
    split
    · exact .inr ⟨_, rfl⟩
    · exact .inl rfl
  | setkey =>
    rw [exec, execSetkey_eq] at answered
    cases answered
    split; · exact .inr ⟨_, rfl⟩
    split; · exact .inr ⟨_, rfl⟩
    exact .inl rfl
  | encrypt => cases answered; exact presentCrypt_accepted_or_refused _ s
  | decrypt => cases answered; exact presentCrypt_accepted_or_refused _ s

/-- A refusal changes at most ERR and ERRCODE (R224). -/
theorem raiseCmdError_changes_error_only (e : CmdError) (s : State) :
    raiseCmdError e s =
      { s with err := (raiseCmdError e s).err, errcode := (raiseCmdError e s).errcode } := by
  rw [raiseCmdError_frame]

/-- Settles O33: a refusal reaches the error alone, and an acceptance the command's own fields. -/
theorem presentedCommandsFrame : Obligations.PresentedCommandsFrame := by
  unfold Obligations.PresentedCommandsFrame
  intro i s t answered
  refine ⟨presented_frame (presented_of_exec answered), ?_⟩
  rcases exec_accepted_or_refused answered with rfl | ⟨e, rfl⟩
  · cases i with
    | nop => simp [acceptCommand]
    | setkey => simp [acceptCommand, acceptSetkey]
    | encrypt => simp [acceptCommand, acceptCrypt]
    | decrypt => simp [acceptCommand, acceptCrypt]
  · have errorOnly := raiseCmdError_changes_error_only e s
    exact ⟨fun _ => errorOnly, by simp, by simp, .inr errorOnly⟩

end Sys2Proof.Proofs
end

section
/-! The Feistel unit (43_feistel.md R160 to R169): each part of one direction has its inverse in the other, and the rounds read the subkeys of `roundOrder` only. -/

namespace Sys2Proof.Proofs

open Sys2Proof.Machine Sys2Proof.Laws

/-! ### One round -/

@[simp] theorem decRound_encRound (x : Halves) (k : QuarterWord) :
    decRound (encRound x k) k = x := by
  simp [decRound, encRound]

@[simp] theorem encRound_decRound (x : Halves) (k : QuarterWord) :
    encRound (decRound x k) k = x := by
  simp [decRound, encRound]

/-- Settles O21: both rounds XOR the same round value, of the half they only move. -/
theorem roundsUndoEachOther : Obligations.RoundsUndoEachOther := by
  unfold Obligations.RoundsUndoEachOther
  exact fun l r k => ⟨rfl, rfl, decRound_encRound ⟨l, r⟩ k, encRound_decRound ⟨l, r⟩ k⟩

/-! ### The eight rounds -/

/-- A list of steps is undone by the steps' inverses in the opposite order. -/
theorem foldl_reverse_foldl {α β : Type*} {f g : β → α → β} (undo : ∀ y a, g (f y a) a = y)
    (as : List α) (x : β) : as.reverse.foldl g (as.foldl f x) = x := by
  induction as generalizing x with
  | nil => rfl
  | cons a as ih =>
    simp only [List.reverse_cons, List.foldl_append, List.foldl_cons, List.foldl_nil, ih, undo]

@[simp] theorem decRounds_encRounds (k : Vector QuarterWord 16) (x : Halves) :
    decRounds k (encRounds k x) = x :=
  foldl_reverse_foldl (fun y r => decRound_encRound y k[r]) roundOrder x

@[simp] theorem encRounds_decRounds (k : Vector QuarterWord 16) (x : Halves) :
    encRounds k (decRounds k x) = x :=
  foldl_reverse_foldl (fun y r => encRound_decRound y k[r]) roundOrder.reverse x

/-! ### Whitening -/

@[simp] theorem undoPreWhiten_preWhiten (ks : KeySchedule) (x : Halves) :
    undoPreWhiten ks (preWhiten ks x) = x := by
  simp [undoPreWhiten, preWhiten]

@[simp] theorem preWhiten_undoPreWhiten (ks : KeySchedule) (x : Halves) :
    preWhiten ks (undoPreWhiten ks x) = x := by
  simp [undoPreWhiten, preWhiten]

@[simp] theorem undoPostWhiten_postWhiten (ks : KeySchedule) (x : Halves) :
    undoPostWhiten ks (postWhiten ks x) = x := by
  simp [undoPostWhiten, postWhiten]

@[simp] theorem postWhiten_undoPostWhiten (ks : KeySchedule) (x : Halves) :
    postWhiten ks (undoPostWhiten ks x) = x := by
  simp [undoPostWhiten, postWhiten]

/-! ### The block functions -/

/-- One direction's output halves, read back by `split`, are the `Halves` they were taken from. -/
theorem halves_eta (x : Halves) : (⟨x.l, x.r⟩ : Halves) = x := rfl

/-- R165 for every schedule value: from the outside in, each part is followed by its inverse. -/
@[simp] theorem decryptBlock_encryptBlock (p : Bytes8) (ks : KeySchedule) :
    decryptBlock (encryptBlock p ks) ks = p := by
  simp only [decryptBlock, encryptBlock, split_join, halves_eta, undoPostWhiten_postWhiten,
    decRounds_encRounds, undoPreWhiten_preWhiten, join_split]

@[simp] theorem encryptBlock_decryptBlock (c : Bytes8) (ks : KeySchedule) :
    encryptBlock (decryptBlock c ks) ks = c := by
  simp only [decryptBlock, encryptBlock, split_join, halves_eta, preWhiten_undoPreWhiten,
    encRounds_decRounds, postWhiten_undoPostWhiten, join_split]

/-- Settles O22: the derived schedules are schedule values. -/
theorem decryptUndoesEncrypt : Obligations.DecryptUndoesEncrypt := by
  unfold Obligations.DecryptUndoesEncrypt
  exact ⟨fun key p => decryptBlock_encryptBlock p (deriveSchedule key),
    fun ks p => decryptBlock_encryptBlock p ks⟩

theorem decryptBlock_leftInverse (ks : KeySchedule) :
    Function.LeftInverse (fun c => decryptBlock c ks) (fun p => encryptBlock p ks) :=
  fun p => decryptBlock_encryptBlock p ks

theorem encryptBlock_leftInverse (ks : KeySchedule) :
    Function.LeftInverse (fun p => encryptBlock p ks) (fun c => decryptBlock c ks) :=
  fun c => encryptBlock_decryptBlock c ks

/-- Settles O23: each direction is the other's two-sided inverse. -/
theorem bothDirectionsArePermutations : Obligations.BothDirectionsArePermutations := by
  unfold Obligations.BothDirectionsArePermutations
  intro ks
  have undone := decryptBlock_leftInverse ks
  have redone := encryptBlock_leftInverse ks
  exact ⟨⟨undone.injective, redone.surjective⟩, ⟨redone.injective, undone.surjective⟩, redone⟩

/-- A block with one bit of its scalar flipped is another block: the two scalars differ in that bit. -/
theorem ofScalar_flip_ne (p : Bytes8) (i : Fin 64) :
    ofScalar (toScalar p ^^^ BitVec.twoPow 64 i.val) ≠ p := by
  intro same
  have flipped : toScalar p ^^^ BitVec.twoPow 64 i.val = toScalar p := by
    rw [← toScalar_ofScalar (toScalar p ^^^ _), same]
  have bit := congrArg (·.getLsbD i.val) flipped
  simp at bit

/-- Settles O24: encryption keeps different blocks apart. -/
theorem flippingAPlaintextBitChangesTheCiphertext :
    Obligations.FlippingAPlaintextBitChangesTheCiphertext := by
  unfold Obligations.FlippingAPlaintextBitChangesTheCiphertext
  intro key p i
  have keptApart := (decryptBlock_leftInverse (deriveSchedule key)).injective
  exact keptApart.ne (ofScalar_flip_ne p i)

/-! ### The subkeys the rounds read -/

theorem val_lt_eight_of_mem_roundOrder : ∀ r ∈ roundOrder, r.val < 8 := by decide

section
variable {k k' : Vector QuarterWord 16} (same : ∀ (j : Nat) (h : j < 8), k[j] = k'[j])
include same

theorem getElem_eq_of_mem_roundOrder {r : Fin 16} (hr : r ∈ roundOrder) : k[r] = k'[r] :=
  same r.val (val_lt_eight_of_mem_roundOrder r hr)

theorem encRounds_eq_of_first_eight (x : Halves) : encRounds k x = encRounds k' x :=
  List.foldl_ext _ _ x fun y _ hr => congrArg (encRound y) (getElem_eq_of_mem_roundOrder same hr)

theorem decRounds_eq_of_first_eight (x : Halves) : decRounds k x = decRounds k' x :=
  List.foldl_ext _ _ x fun y _ hr =>
    congrArg (decRound y) (getElem_eq_of_mem_roundOrder same (List.mem_reverse.mp hr))

end

/-- Settles O25: the two schedules differ at most in their subkeys, and the rounds agree on those. -/
theorem roundsReadOnlyTheFirstEightSubkeys : Obligations.RoundsReadOnlyTheFirstEightSubkeys := by
  unfold Obligations.RoundsReadOnlyTheFirstEightSubkeys
  rintro ⟨k, k89, k1011, k1213, k1415⟩ ⟨k', _, _, _, _⟩ p same rfl rfl rfl rfl
  refine ⟨?_, ?_⟩
  · rw [encryptBlock, encRounds_eq_of_first_eight same]
    rfl
  · rw [decryptBlock, decRounds_eq_of_first_eight same]
    rfl

end Sys2Proof.Proofs
end

section
/-! The commands ENCRYPT and DECRYPT (43_feistel.md R167, R171): acceptance, completion, and the way of a block through both. -/

namespace Sys2Proof.Proofs

open Sys2Proof.Machine Sys2Proof.Laws

/-! ### What acceptance and delivery write -/

@[simp] theorem acceptCrypt_sched (p : Pend) (s : State) : (acceptCrypt p s).sched = s.sched := rfl

theorem blockOperand_acceptCrypt (p : Pend) (s : State) :
    blockOperand (acceptCrypt p s) = blockOperand s := rfl

@[simp] theorem deliverBlock_doutHi (b : Bytes8) (s : State) :
    (deliverBlock b s).doutHi = (split b).1 := rfl
@[simp] theorem deliverBlock_doutLo (b : Bytes8) (s : State) :
    (deliverBlock b s).doutLo = (split b).2 := rfl
@[simp] theorem deliverBlock_dv (b : Bytes8) (s : State) : (deliverBlock b s).dv = true := rfl
@[simp] theorem deliverBlock_busy (b : Bytes8) (s : State) : (deliverBlock b s).busy = false := rfl
@[simp] theorem deliverBlock_sched (b : Bytes8) (s : State) :
    (deliverBlock b s).sched = s.sched := rfl

@[simp] theorem completeEncrypt_sched (s : State) : (completeEncrypt s).sched = s.sched :=
  deliverBlock_sched _ s

/-! ### Acceptance and completion -/

/-- R193: idle, with a key and both halves of DIN, nothing refuses the command. -/
theorem presentCrypt_accepted (p : Pend) {s : State} (idle : s.busy = false) (keyed : s.kv = true)
    (filledHi : s.dfHi = true) (filledLo : s.dfLo = true) :
    presentCrypt p s = acceptCrypt p s := by
  simp [presentCrypt_eq, dataFilled, idle, keyed, filledHi, filledLo]

theorem exec_encrypt_accepted {s : State} (idle : s.busy = false) (keyed : s.kv = true)
    (filledHi : s.dfHi = true) (filledLo : s.dfLo = true) :
    exec .encrypt s = .next (acceptCrypt .encrypt s) :=
  congrArg Host.Outcome.next (presentCrypt_accepted .encrypt idle keyed filledHi filledLo)

theorem exec_decrypt_accepted {s : State} (idle : s.busy = false) (keyed : s.kv = true)
    (filledHi : s.dfHi = true) (filledLo : s.dfLo = true) :
    exec .decrypt s = .next (acceptCrypt .decrypt s) :=
  congrArg Host.Outcome.next (presentCrypt_accepted .decrypt idle keyed filledHi filledLo)

theorem complete_of_encrypt {s : State} (pending : s.pend = .encrypt) :
    complete s = completeEncrypt s := by
  rw [complete, pending]

theorem complete_of_decrypt {s : State} (pending : s.pend = .decrypt) :
    complete s = completeDecrypt s := by
  rw [complete, pending]

/-- Settles O29: acceptance, and then the completion of what was accepted; DIN and SCHED are still
those of `s`. -/
theorem encryptDeliversTheCiphertext : Obligations.EncryptDeliversTheCiphertext := by
  unfold Obligations.EncryptDeliversTheCiphertext
  intro s idle keyed filledHi filledLo
  refine ⟨acceptCrypt .encrypt s, exec_encrypt_accepted idle keyed filledHi filledLo, rfl, ?_⟩
  rintro rest _ moves rfl
  rw [step_engine moves, complete_of_encrypt rfl]
  rfl

/-- Settles O30: acceptance, and then the completion of what was accepted; DIN and SCHED are still
those of `s`. -/
theorem decryptDeliversThePlaintext : Obligations.DecryptDeliversThePlaintext := by
  unfold Obligations.DecryptDeliversThePlaintext
  intro s idle keyed filledHi filledLo
  refine ⟨acceptCrypt .decrypt s, exec_decrypt_accepted idle keyed filledHi filledLo, rfl, ?_⟩
  rintro rest _ moves rfl
  rw [step_engine moves, complete_of_decrypt rfl]
  rfl

/-! ### Encrypt, copy, decrypt -/

/-- The host has copied DOUT to DIN, half by half, which sets both fill flags (R197). -/
def copyOutput (s : State) : State :=
  { s with dinHi := s.doutHi, dinLo := s.doutLo, dfHi := true, dfLo := true }

@[simp] theorem copyOutput_sched (s : State) : (copyOutput s).sched = s.sched := rfl

/-- The block delivered to DOUT is the operand after the copy (R110). -/
theorem blockOperand_copyOutput_deliverBlock (b : Bytes8) (s : State) :
    blockOperand (copyOutput (deliverBlock b s)) = b :=
  join_split b

/-- R171 corner case 1: decrypting the copied ciphertext delivers the block that was encrypted. -/
theorem completeDecrypt_copyOutput_completeEncrypt (s : State) :
    completeDecrypt (acceptCrypt .decrypt (copyOutput (completeEncrypt s))) =
      deliverBlock (blockOperand s) (acceptCrypt .decrypt (copyOutput (completeEncrypt s))) := by
  have restored : decryptBlock (blockOperand (copyOutput (completeEncrypt s)))
      (scheduleOf s.sched) = blockOperand s := by
    rw [completeEncrypt, blockOperand_copyOutput_deliverBlock, decryptBlock_encryptBlock]
  exact congrArg (deliverBlock · _) restored

/-- Settles O36: both commands are accepted, and the block delivered last is the first DIN. -/
theorem copyingDoutToDinAndDecryptingRestoresTheBlock :
    Obligations.CopyingDoutToDinAndDecryptingRestoresTheBlock := by
  unfold Obligations.CopyingDoutToDinAndDecryptingRestoresTheBlock
  intro s idle keyed filledHi filledLo
  refine ⟨acceptCrypt .encrypt s,
    acceptCrypt .decrypt (copyOutput (completeEncrypt (acceptCrypt .encrypt s))),
    exec_encrypt_accepted idle keyed filledHi filledLo,
    exec_decrypt_accepted rfl keyed rfl rfl, ?_⟩
  rw [complete_of_decrypt rfl, completeDecrypt_copyOutput_completeEncrypt,
    blockOperand_acceptCrypt]
  simp [blockOperand]

end Sys2Proof.Proofs
end

section
/-! Commands at the interface (44_command_interface.md R193, R194, R200): what runs a presented word, what refuses it, and what its completion leaves unchanged. -/

namespace Sys2Proof.Proofs

open Sys2Proof.Machine Sys2Proof.Laws

/-! ### Presentation -/

/-- Settles O5: the word is presented, and the presented word is the command it decodes to. -/
theorem stepRunsTheDecodedCommand : Obligations.StepRunsTheDecodedCommand := by
  unfold Obligations.StepRunsTheDecodedCommand
  intro s rest w ops i issues decoded
  rw [step_presentCommand issues, presentCommand, decoded]
  rfl

theorem exec_nop_idle {s : State} (idle : s.busy = false) : exec .nop s = .next s :=
  congrArg Host.Outcome.next (unlessBusy_idle idle)

/-- Settles O27: an idle NOP is no action at all, and only the word with RSV = 0 is a NOP. -/
theorem nopChangesNothing : Obligations.NopChangesNothing := by
  unfold Obligations.NopChangesNothing
  exact ⟨fun _ => exec_nop_idle, fun _ => exec_busy .nop, decode_encode .nop,
    fun _ _ reserved => ⟨_, decode_of_rsv_ne reserved⟩⟩

/-! ### Refusals of an idle block -/

theorem exec_setkey_keylen {s : State} (idle : s.busy = false)
    (missing : s.kfHi = false ∨ s.kfLo = false) :
    exec .setkey s = .next (raiseCmdError .keylen s) := by
  have unfilled : keyFilled s = false := by rwa [keyFilled, Bool.and_eq_false_iff]
  simp [exec, execSetkey_eq, idle, unfilled]

theorem presentCrypt_nokey (p : Pend) {s : State} (idle : s.busy = false) (noKey : s.kv = false) :
    presentCrypt p s = raiseCmdError .nokey s := by
  simp [presentCrypt_eq, idle, noKey]

theorem presentCrypt_blklen (p : Pend) {s : State} (idle : s.busy = false) (hasKey : s.kv = true)
    (missing : s.dfHi = false ∨ s.dfLo = false) :
    presentCrypt p s = raiseCmdError .blklen s := by
  have unfilled : dataFilled s = false := by rwa [dataFilled, Bool.and_eq_false_iff]
  simp [presentCrypt_eq, idle, hasKey, unfilled]

/-- Settles O31: BUSY is tested first, then each command's own conditions; ENCRYPT and DECRYPT share
theirs. -/
theorem refusalsFollowThePriority : Obligations.RefusalsFollowThePriority := by
  unfold Obligations.RefusalsFollowThePriority
  refine fun s => ⟨fun busy i => exec_busy i busy, fun idle =>
    ⟨exec_setkey_keylen idle, fun noKey => ?_, fun hasKey missing => ?_⟩⟩
  · exact ⟨congrArg _ (presentCrypt_nokey .encrypt idle noKey),
      congrArg _ (presentCrypt_nokey .decrypt idle noKey)⟩
  · exact ⟨congrArg _ (presentCrypt_blklen .encrypt idle hasKey missing),
      congrArg _ (presentCrypt_blklen .decrypt idle hasKey missing)⟩

/-! ### Completion -/

theorem complete_of_setkey {s : State} (pending : s.pend = .setkey) :
    complete s = completeSetkey s := by
  rw [complete, pending]

theorem complete_busy (s : State) : (complete s).busy = false := by rw [complete_frame]

theorem complete_pend (s : State) : (complete s).pend = .none := by rw [complete_frame]

/-- ENCRYPT and DECRYPT complete alike but for the block they deliver (R167, R171). -/
theorem complete_of_crypt {s : State} (pending : s.pend = .encrypt ∨ s.pend = .decrypt) :
    ∃ b, complete s = deliverBlock b s := by
  rcases pending with pending | pending
  · exact ⟨_, complete_of_encrypt pending⟩
  · exact ⟨_, complete_of_decrypt pending⟩

/-- Settles O34: the step answers the completion, whose frame is `complete_frame`; what each command
leaves besides is read off its own completion part. -/
theorem completionFrame : Obligations.CompletionFrame := by
  unfold Obligations.CompletionFrame
  intro s rest moves
  refine ⟨_, step_engine moves, complete_busy _, complete_pend _, complete_frame _,
    fun pending => ?_, fun pending => ?_⟩
  · rw [complete_of_setkey (s := { s with schedule := rest }) pending]
    exact ⟨rfl, rfl, rfl, rfl⟩
  · obtain ⟨b, completes⟩ := complete_of_crypt (s := { s with schedule := rest }) pending
    rw [completes]
    exact ⟨rfl, rfl, rfl⟩

end Sys2Proof.Proofs
end

section
/-! Supported host accesses (20_memory.md R51 to R59; 44_command_interface.md R191 to R198): what a read returns, and what a write to each register does. -/

namespace Sys2Proof.Proofs

open Sys2Proof.Machine Sys2Proof.Laws

/-! ### Reads -/

/-- A supported read records what `readRegister` returns; of the state only the draw counter moves. -/
theorem step_read {s : State} {rest : List Slot} {off : Offset} {ops : List HostOp}
    (issues : HostIssues s rest (.read off 4) ops) (aligned : off.toNat % 4 = 0) :
    step s = .next { s with
      schedule := rest, host := ops
      readLog := s.readLog ++ [(readRegister (regAt off) s).1]
      draws := (readRegister (regAt off) s).2.draws } := by
  simp only [step_issue issues, hostRead, supportedAccess_four aligned, readRegister_eq]
  rfl

theorem producesDout_iff (p : Pend) : producesDout p = true ↔ p = .encrypt ∨ p = .decrypt := by
  cases p <;> decide

theorem producesDout_eq_false {p : Pend} (ne : p ≠ .encrypt) (nd : p ≠ .decrypt) :
    producesDout p = false := by
  rw [← Bool.not_eq_true, producesDout_iff]
  exact not_or.mpr ⟨ne, nd⟩

theorem regAt_sched {off : Offset} {j : Fin 8} (h : off.toNat = 0x20 + 4 * j.val) :
    regAt off = .sched j := by
  have offset : off = regOffset (.sched j) := by
    rw [regOffset, ← h, BitVec.ofNat_toNat, BitVec.setWidth_eq]
  rw [offset, regAt_regOffset]

/-- The value and the draw counter of a read of a register that no pending command produces. -/
theorem readRegister_value {r r' : Reg} {s : State} (reg : r = r')
    (stable : beingProduced r' s = false) :
    (readRegister r s).1 = registerValue r' s ∧ (readRegister r s).2.draws = s.draws := by
  rw [reg, readRegister_eq, stable]
  exact ⟨rfl, rfl⟩

/-- The value and the draw counter of a read of a register that the pending command produces. -/
theorem readRegister_drawn {r r' : Reg} {s : State} (reg : r = r')
    (produced : beingProduced r' s = true) :
    (readRegister r s).1 = Config.draw32 s.draws ∧
      (readRegister r s).2.draws = s.draws + 1 := by
  rw [reg, readRegister_eq, produced]
  exact ⟨rfl, rfl⟩

/-- Settles O38: each row of R191 names the register at its offset and whether it is being produced. -/
theorem supportedReadsReturnTheRegister : Obligations.SupportedReadsReturnTheRegister := by
  unfold Obligations.SupportedReadsReturnTheRegister
  intro s rest off ops issues aligned
  refine ⟨_, _, step_read issues aligned, ?cmd, ?status, ?keyinHi, ?keyinLo, ?dinHi, ?dinLo,
    ?doutDrawn, ?doutHi, ?doutLo, ?sched, ?reserved⟩
  case cmd | status | keyinHi | keyinLo | dinHi | dinLo =>
    rintro rfl
    exact readRegister_value rfl rfl
  case doutDrawn =>
    intro isDout pending
    have produced := (producesDout_iff s.pend).mpr pending
    rcases isDout with rfl | rfl
    · exact readRegister_drawn (r' := .doutHi) rfl produced
    · exact readRegister_drawn (r' := .doutLo) rfl produced
  case doutHi | doutLo =>
    rintro rfl notEncrypt notDecrypt
    exact readRegister_value rfl (producesDout_eq_false notEncrypt notDecrypt)
  case sched =>
    refine fun j isSched => ⟨fun pending => ?_, fun notSetkey => ?_⟩
    · exact readRegister_drawn (regAt_sched isSched) (beq_iff_eq.mpr pending)
    · exact readRegister_value (regAt_sched isSched) (beq_eq_false_iff_ne.mpr notSetkey)
  case reserved =>
    exact fun above => readRegister_value (regAt_reserved above) rfl

/-! ### Writes -/

section
variable {s : State} {rest : List Slot} {off : Offset} {v : Word} {ops : List HostOp}
  (issues : HostIssues s rest (.write off 4 v) ops) (aligned : off.toNat % 4 = 0)
include issues aligned

/-- A write that presents no command answers what the register's write gives. -/
theorem step_write_done {t : State}
    (written : writeRegister (regAt off) v { s with schedule := rest, host := ops } = .done t) :
    step s = .next t := by
  rw [step_write issues aligned, written]

theorem step_write_status (status : regAt off = .status) :
    step s = .next (writeStatus v { s with schedule := rest, host := ops }) :=
  step_write_done issues aligned (by rw [status, writeRegister])

/-- A write to an input register is refused with PROTO while busy, and else stores (R196, R197). -/
theorem step_write_input {act : State}
    (guarded : writeRegister (regAt off) v { s with schedule := rest, host := ops } =
      .done (unlessBusy { s with schedule := rest, host := ops } act)) :
    (s.busy = true →
      step s = .next (raiseCmdError .proto { s with schedule := rest, host := ops })) ∧
    (s.busy = false → step s = .next act) := by
  rw [step_write_done issues aligned guarded]
  exact ⟨fun busy => congrArg _ (unlessBusy_busy busy),
    fun idle => congrArg _ (unlessBusy_idle idle)⟩

end

/-- Settles O42: bit 3 decides between clearing the error and nothing. -/
theorem statusWriteClearsTheError : Obligations.StatusWriteClearsTheError := by
  unfold Obligations.StatusWriteClearsTheError
  intro s rest v ops issues
  rw [step_write_status issues rfl rfl, writeStatus]
  exact ⟨fun set => by rw [if_pos set]; rfl, fun clear => by rw [if_neg (ne_true_of_eq_false clear)]⟩

/-- Settles O43: both halves of KEYIN are input registers. -/
theorem keyInputWriteStoresOrIsRefused : Obligations.KeyInputWriteStoresOrIsRefused := by
  unfold Obligations.KeyInputWriteStoresOrIsRefused
  intro s rest off v ops issues
  refine ⟨?refused, ?high, ?low⟩
  case refused =>
    rintro busy (rfl | rfl)
    · exact (step_write_input issues rfl rfl).1 busy
    · exact (step_write_input issues rfl rfl).1 busy
  case high | low =>
    rintro idle rfl
    exact (step_write_input issues rfl rfl).2 idle

/-- Settles O44: both halves of DIN are input registers. -/
theorem dataInputWriteStoresOrIsRefused : Obligations.DataInputWriteStoresOrIsRefused := by
  unfold Obligations.DataInputWriteStoresOrIsRefused
  intro s rest off v ops issues
  refine ⟨?refused, ?high, ?low⟩
  case refused =>
    rintro busy (rfl | rfl)
    · exact (step_write_input issues rfl rfl).1 busy
    · exact (step_write_input issues rfl rfl).1 busy
  case high | low =>
    rintro idle rfl
    exact (step_write_input issues rfl rfl).2 idle

/-- From offset 0x18 up there are only DOUT, SCHED and reserved offsets, which ignore a write. -/
theorem writeRegister_ignored {off : Offset} (above : 0x18 ≤ off.toNat) (v : Word) (s : State) :
    writeRegister (regAt off) v s = .done s := by
  unfold regAt
  split
  case h_1 | h_2 | h_3 | h_4 | h_5 | h_6 => omega
  all_goals rfl

/-- Settles O45: the access and the turn are all that such a write uses up. -/
theorem readOnlyAndReservedWritesAreIgnored : Obligations.ReadOnlyAndReservedWritesAreIgnored := by
  unfold Obligations.ReadOnlyAndReservedWritesAreIgnored
  intro s rest off v ops issues aligned above
  exact step_write_done issues aligned (writeRegister_ignored above v _)

end Sys2Proof.Proofs
end

section
/-! Runs (44_command_interface.md R190, R199 to R204): idle turns, the operands of a pending command, the host's turns with supported accesses, the latency of a command, and the end of a run. -/

namespace Sys2Proof.Proofs

open Sys2Proof.Machine Sys2Proof.Laws

/-! ### Turns in which nothing is done -/

theorem step_engine_idle {s : State} {rest : List Slot} (idle : s.busy = false)
    (next : s.schedule = .engine :: rest) : step s = .next { s with schedule := rest } := by
  simp [step, takeTurn, next, engineTurn, idle]

theorem step_host_empty {s : State} {rest : List Slot} (moves : HostMoves s rest)
    (empty : s.host = []) : step s = .next { s with schedule := rest } := by
  simp [step, takeTurn_host moves, hostTurn, empty]

/-- Settles O58: each agent's turn falls through. -/
theorem anAgentWithNothingToDoChangesNothing :
    Obligations.AnAgentWithNothingToDoChangesNothing := by
  unfold Obligations.AnAgentWithNothingToDoChangesNothing
  exact ⟨fun _ _ => step_engine_idle, fun _ _ => step_host_empty⟩

/-! ### A pending command -/

/-- Settles O55: completion and reset end BUSY, stores need BUSY = 0, a presented command is refused
with PROTO, and no other effect of a step reaches the operands. -/
theorem pendingCommandKeepsItsOperands : Obligations.PendingCommandKeepsItsOperands := by
  unfold Obligations.PendingCommandKeepsItsOperands
  intro s t stepped busy busy'
  cases step_effect stepped with
  | completed => simp [complete_busy] at busy'
  | reset => cases busy'
  | keyHigh _ _ _ idle | keyLow _ _ _ idle | dataHigh _ _ _ idle | dataLow _ _ _ idle =>
    simp [busy] at idle
  | presented rest _ ops i _ _ _ answered =>
    have refused := exec_busy i (s := { s with schedule := rest, host := ops }) busy
    cases refused.symm.trans answered
    rw [raiseCmdError_frame]
  | refused => rw [raiseCmdError_frame]
  | _ => rfl

/-! ### One host turn with supported accesses -/

/-- What one host operation, carried out in `p`, leaves as it is: the run, FAULTED, and a set BUSY. -/
structure KeepsRun (p t : State) : Prop where
  host : t.host = p.host
  schedule : t.schedule = p.schedule
  faulted : t.faulted = p.faulted
  staysBusy : p.busy = true → t.busy = true

theorem keepsRun_refl (p : State) : KeepsRun p p := ⟨rfl, rfl, rfl, id⟩

theorem keepsRun_raiseCmdError (e : CmdError) (p : State) : KeepsRun p (raiseCmdError e p) := by
  constructor <;> simp

theorem keepsRun_unlessBusy {p act : State} (h : KeepsRun p act) :
    KeepsRun p (unlessBusy p act) := by
  unfold unlessBusy
  split
  · exact keepsRun_raiseCmdError _ p
  · exact h

theorem keepsRun_presented {p t : State} (shown : Presented p t) : KeepsRun p t := by
  cases shown with
  | unchanged => exact keepsRun_refl p
  | refused e => exact keepsRun_raiseCmdError e p
  | setkey | encrypt | decrypt => exact ⟨rfl, rfl, rfl, fun _ => rfl⟩

theorem keepsRun_presentCommand (w : Word) (p : State) :
    ∃ t, turnOutcome (presentCommand w p) = .next t ∧ KeepsRun p t := by
  unfold presentCommand
  split
  next i _ =>
    obtain ⟨t, answered, shown⟩ := exec_presented i p
    exact ⟨t, answered, keepsRun_presented shown⟩
  next => exact ⟨_, rfl, keepsRun_unlessBusy (keepsRun_raiseCmdError _ p)⟩

theorem keepsRun_writeStatus (v : Word) (p : State) : KeepsRun p (writeStatus v p) := by
  unfold writeStatus
  split
  · exact ⟨rfl, rfl, rfl, id⟩
  · exact keepsRun_refl p

theorem keepsRun_writeRegister (r : Reg) (v : Word) (p : State) :
    ∃ t, turnOutcome (writeRegister r v p) = .next t ∧ KeepsRun p t := by
  cases r with
  | cmd => exact keepsRun_presentCommand v p
  | status => exact ⟨_, rfl, keepsRun_writeStatus v p⟩
  | keyinHi | keyinLo | dinHi | dinLo =>
    exact ⟨_, rfl, keepsRun_unlessBusy ⟨rfl, rfl, rfl, id⟩⟩
  | doutHi | doutLo | sched | reserved => exact ⟨p, rfl, keepsRun_refl p⟩

/-- What the host's turn does to the run when its accesses are supported: an operation is used up, or
the host has none left or waits in POLL, and then BUSY is as it was. -/
structure HostTurnTaken (s : State) (rest : List Slot) (t : State) : Prop where
  schedule : t.schedule = rest
  faulted : t.faulted = s.faulted
  staysBusy : s.busy = true → t.busy = true
  host : (∃ op, s.host = op :: t.host) ∨
    t.host = s.host ∧ t.busy = s.busy ∧ (s.host = [] ∨ s.busy = true)

theorem hostTurnTaken_of_keepsRun {s t : State} {rest : List Slot} {op : HostOp} {ops : List HostOp}
    (queued : s.host = op :: ops) (kept : KeepsRun { s with schedule := rest, host := ops } t) :
    HostTurnTaken s rest t where
  schedule := kept.schedule
  faulted := kept.faulted
  staysBusy := kept.staysBusy
  host := .inl ⟨op, by rw [queued, kept.host]⟩

theorem supportedAccess_iff {off : Offset} {size : Nat} :
    supportedAccess off size = true ↔ size = 4 ∧ off.toNat % 4 = 0 := by
  simp [supportedAccess, Config.accessBytes]

/-- A host whose accesses are supported takes its turn. -/
theorem step_host_supported {s : State} {rest : List Slot} (moves : HostMoves s rest)
    (free : s.faulted = false) (supported : ∀ op ∈ s.host, op.supported = true) :
    ∃ t, step s = .next t ∧ HostTurnTaken s rest t := by
  cases queued : s.host with
  | nil => exact ⟨_, step_host_empty moves queued, rfl, rfl, id, .inr ⟨rfl, rfl, .inl queued⟩⟩
  | cons op ops =>
    have issues : HostIssues s rest op ops := ⟨moves, free, queued⟩
    have allowed : op.supported = true := supported op (by simp [queued])
    cases op with
    | read off size =>
      obtain ⟨rfl, aligned⟩ := supportedAccess_iff.mp allowed
      exact ⟨_, step_read issues aligned, hostTurnTaken_of_keepsRun queued ⟨rfl, rfl, rfl, id⟩⟩
    | write off size v =>
      obtain ⟨rfl, aligned⟩ := supportedAccess_iff.mp allowed
      obtain ⟨t, answered, kept⟩ :=
        keepsRun_writeRegister (regAt off) v { s with schedule := rest, host := ops }
      exact ⟨t, (step_write issues aligned).trans answered, hostTurnTaken_of_keepsRun queued kept⟩
    | poll =>
      refine ⟨_, pollRepeatsWhileBusy s rest ops issues, rfl, rfl, id, ?_⟩
      cases busy : s.busy with
      | false => exact .inl ⟨.poll, queued⟩
      | true => exact .inr ⟨queued.symm, rfl, .inr rfl⟩

theorem hostTurnTaken_supported {s t : State} {rest : List Slot} (taken : HostTurnTaken s rest t)
    (supported : ∀ op ∈ s.host, op.supported = true) : ∀ op ∈ t.host, op.supported = true := by
  rcases taken.host with ⟨_, queued⟩ | ⟨same, -, -⟩
  · exact fun op left => supported op (by simp [queued, left])
  · rwa [same]

/-! ### The latency of a command -/

/-- `t` is `s` but for the error fields and the run around the block. -/
inductive SameButErrorAndRun (s : State) : State → Prop where
  | mk (err : Bool) (errcode : BitVec 4) (host : List HostOp) (schedule : List Slot)
      (readLog : List Word) (draws : Nat) : SameButErrorAndRun s { s with
        err := err, errcode := errcode
        host := host, schedule := schedule, readLog := readLog, draws := draws }

theorem SameButErrorAndRun.trans {s t u : State} (h : SameButErrorAndRun s t)
    (h' : SameButErrorAndRun t u) : SameButErrorAndRun s u := by
  cases h
  cases h'
  exact .mk ..

theorem SameButErrorAndRun.eq {s t : State} (h : SameButErrorAndRun s t) :
    t = { s with
      err := t.err, errcode := t.errcode
      host := t.host, schedule := t.schedule, readLog := t.readLog, draws := t.draws } := by
  cases h
  rfl

/-- A completion reads neither the error nor the run (R199). -/
theorem SameButErrorAndRun.complete {s t : State} (h : SameButErrorAndRun s t) :
    SameButErrorAndRun (complete s) (complete t) := by
  cases h
  unfold Machine.complete
  cases s.pend <;> exact .mk ..

/-- While a command is pending, a host turn with supported accesses reaches only the error and the
run. -/
theorem hostTurnTaken_pending {s t : State} {rest : List Slot} (stepped : step s = .next t)
    (taken : HostTurnTaken s rest t) (busy : s.busy = true) : SameButErrorAndRun s t := by
  rw [pendingCommandKeepsItsOperands s t stepped busy (taken.staysBusy busy), taken.faulted]
  exact .mk ..

/-- After `n` host turns the engine's turn gives what it would have given at once. -/
theorem run_latency (n : Nat) {s : State} {rest : List Slot} (busy : s.busy = true)
    (free : s.faulted = false) (supported : ∀ op ∈ s.host, op.supported = true)
    (scheduled : s.schedule = latencySlots n ++ rest) :
    ∃ t, Host.Core.run Sys2Proof.core (n + 1) s = .next t ∧
      SameButErrorAndRun (complete s) t ∧ t.schedule = rest := by
  induction n generalizing s with
  | zero =>
    have completes : SameButErrorAndRun s { s with schedule := rest } := .mk ..
    have moves : EngineMoves s rest := ⟨busy, .inl scheduled⟩
    refine ⟨_, run_next (step_engine moves), completes.complete, ?_⟩
    rw [complete_frame]
  | succ n ih =>
    obtain ⟨u, stepped, taken⟩ := step_host_supported (.inl scheduled) free supported
    have same := hostTurnTaken_pending stepped taken busy
    obtain ⟨t, ran, result, left⟩ := ih (taken.staysBusy busy) (taken.faulted.trans free)
      (hostTurnTaken_supported taken supported) taken.schedule
    exact ⟨t, (run_next stepped).trans ran, same.complete.trans result, left⟩

/-- Settles O56, by induction on the number of host turns before the engine's. -/
theorem resultDoesNotDependOnTheLatency : Obligations.ResultDoesNotDependOnTheLatency := by
  unfold Obligations.ResultDoesNotDependOnTheLatency
  intro n s rest busy free supported scheduled
  obtain ⟨t, ran, same, rfl⟩ := run_latency n busy free supported scheduled
  exact ⟨t, ran, same.eq⟩

/-! ### The end of a run -/

/-- A bound on the steps a run still takes: each slot, two for each host operation, since it may be a
command that has to complete, and the completion of the pending one. -/
def stepsLeft (s : State) : Nat := s.schedule.length + 2 * s.host.length + s.busy.toNat

/-- The host is able to move, and makes only supported accesses. -/
structure HostWellBehaved (s : State) : Prop where
  free : s.faulted = false
  supported : ∀ op ∈ s.host, op.supported = true

theorem hostTurnTaken_wellBehaved {s t : State} {rest : List Slot} (taken : HostTurnTaken s rest t)
    (good : HostWellBehaved s) : HostWellBehaved t :=
  ⟨taken.faulted.trans good.free, hostTurnTaken_supported taken good.supported⟩

/-- The work left besides the schedule: never more after a host turn, and less if the host, not being
made to wait, still has an operation. -/
theorem hostTurnTaken_work {s t : State} {rest : List Slot} (taken : HostTurnTaken s rest t) :
    2 * t.host.length + t.busy.toNat ≤ 2 * s.host.length + s.busy.toNat ∧
    (s.host ≠ [] → s.busy = false →
      2 * t.host.length + t.busy.toNat < 2 * s.host.length + s.busy.toNat) := by
  rcases taken.host with ⟨op, queued⟩ | ⟨same, sameBusy, waits⟩
  · have bit : t.busy.toNat ≤ 1 := Bool.toNat_le _
    rw [queued, List.length_cons]
    omega
  · rw [same, sameBusy]
    refine ⟨le_rfl, fun left idle => ?_⟩
    exact absurd waits (by simp [left, idle])

theorem step_complete_stepsLeft {s : State} {rest : List Slot} (moves : EngineMoves s rest)
    (good : HostWellBehaved s) :
    ∃ t, step s = .next t ∧ HostWellBehaved t ∧ stepsLeft t < stepsLeft s := by
  have shorter : rest.length ≤ s.schedule.length := by
    obtain ⟨-, next | ⟨-, rfl⟩⟩ := moves
    · simp [next]
    · simp
  refine ⟨_, step_engine moves, ?_, ?_⟩
  · rw [complete_frame]
    exact { good with }
  · rw [complete_frame]
    simp only [stepsLeft, moves.1, Bool.toNat_false, Bool.toNat_true]
    omega

/-- Until the run has ended, every step brings its end nearer. -/
theorem step_stepsLeft {s : State} (good : HostWellBehaved s) (unended : ¬ RunEnded s) :
    ∃ t, step s = .next t ∧ HostWellBehaved t ∧ stepsLeft t < stepsLeft s := by
  cases scheduled : s.schedule with
  | nil =>
    cases busy : s.busy with
    | true => exact step_complete_stepsLeft ⟨busy, .inr ⟨scheduled, rfl⟩⟩ good
    | false =>
      have left : s.host ≠ [] := fun empty => unended ⟨empty, busy⟩
      obtain ⟨t, stepped, taken⟩ :=
        step_host_supported (.inr ⟨scheduled, rfl, busy⟩) good.free good.supported
      have less := (hostTurnTaken_work taken).2 left busy
      refine ⟨t, stepped, hostTurnTaken_wellBehaved taken good, ?_⟩
      simp only [stepsLeft, scheduled, taken.schedule]
      omega
  | cons slot rest =>
    cases slot with
    | host =>
      obtain ⟨t, stepped, taken⟩ := step_host_supported (.inl scheduled) good.free good.supported
      have noMore := (hostTurnTaken_work taken).1
      refine ⟨t, stepped, hostTurnTaken_wellBehaved taken good, ?_⟩
      simp only [stepsLeft, scheduled, taken.schedule, List.length_cons]
      omega
    | engine =>
      cases busy : s.busy with
      | true => exact step_complete_stepsLeft ⟨busy, .inl scheduled⟩ good
      | false =>
        refine ⟨_, step_engine_idle busy scheduled, { good with }, ?_⟩
        simp [stepsLeft, scheduled]
    | reset =>
      have idle : (hardwareReset { s with schedule := rest }).busy = false := rfl
      refine ⟨_, step_reset scheduled, { good with }, ?_⟩
      simp only [stepsLeft, idle, hardwareReset_schedule, hardwareReset_host, scheduled,
        List.length_cons, Bool.toNat_false]
      omega

/-- By induction on `stepsLeft`: an ended run takes no step, any other one step and then fewer. -/
theorem run_ends {s : State} (good : HostWellBehaved s) :
    ∃ k t, k ≤ stepsLeft s ∧ Host.Core.run Sys2Proof.core k s = .next t ∧ GoodEnd t := by
  induction left : stepsLeft s using Nat.strong_induction_on generalizing s with
  | _ n ih =>
    by_cases ended : RunEnded s
    · exact ⟨0, s, Nat.zero_le _, rfl, ended, good.free⟩
    · obtain ⟨u, stepped, good', less⟩ := step_stepsLeft good ended
      obtain ⟨k, t, within, ran, ends⟩ := ih (stepsLeft u) (left ▸ less) good' rfl
      exact ⟨k + 1, t, by omega, (run_next stepped).trans ran, ends⟩

/-- Settles O57: the bound is `stepsLeft`, in which BUSY counts at most one. -/
theorem everyRunEndsWell : Obligations.EveryRunEndsWell := by
  unfold Obligations.EveryRunEndsWell
  intro s free supported
  obtain ⟨k, t, within, ran, ends⟩ := run_ends (s := s) ⟨free, supported⟩
  have bit : s.busy.toNat ≤ 1 := Bool.toNat_le _
  exact ⟨k, t, by unfold stepsLeft at within; omega, ran, ends⟩

end Sys2Proof.Proofs
end

section
/-! Command errors (60_exceptions.md R221, R223, R227): raising one keeps the first, and a recorded one does not change how a command is checked or accepted. -/

namespace Sys2Proof.Proofs

open Sys2Proof.Machine Sys2Proof.Laws

/-! ### Raising -/

theorem raiseCmdError_first (e : CmdError) {s : State} (clear : s.err = false) :
    raiseCmdError e s = { s with err := true, errcode := errorCode e } :=
  if_neg (by simp [clear])

theorem raiseCmdError_later (e : CmdError) {s : State} (recorded : s.err = true) :
    raiseCmdError e s = s :=
  if_pos recorded

/-- Settles O32: the two branches of raising, and the codes of R221. -/
theorem raiseRecordsOnlyTheFirstError : Obligations.RaiseRecordsOnlyTheFirstError := by
  unfold Obligations.RaiseRecordsOnlyTheFirstError
  exact ⟨fun e _ => ⟨raiseCmdError_first e, raiseCmdError_later e⟩, rfl, rfl, rfl, rfl, rfl⟩

/-! ### Commands with an error recorded -/

/-- The state with an error recorded: ERR = 1, and `c` in ERRCODE. -/
def withError (c : BitVec 4) (s : State) : State := { s with err := true, errcode := c }

theorem raiseCmdError_withError (e : CmdError) (c : BitVec 4) (s : State) :
    raiseCmdError e (withError c s) = withError c (raiseCmdError e s) := by
  rw [raiseCmdError_later e rfl, raiseCmdError_frame]
  rfl

theorem unlessBusy_withError (c : BitVec 4) (s act : State) :
    unlessBusy (withError c s) (withError c act) = withError c (unlessBusy s act) := by
  simp only [unlessBusy, raiseCmdError_withError, apply_ite (withError c)]
  rfl

/-- ENCRYPT and DECRYPT: no check reads the error, and acceptance does not write it (R167, R171). -/
theorem presentCrypt_withError (p : Pend) (c : BitVec 4) (s : State) :
    presentCrypt p (withError c s) = withError c (presentCrypt p s) := by
  simp only [presentCrypt, ← unlessBusy_withError, apply_ite (withError c),
    ← raiseCmdError_withError]
  rfl

/-- A command does with an error recorded what it does without, but that the error stays the recorded
one (R227). -/
theorem exec_withError {i : Instr} {s t : State} (c : BitVec 4) (answered : exec i s = .next t) :
    exec i (withError c s) = .next (withError c t) := by
  cases i with
  | nop =>
    cases answered
    exact congrArg _ (unlessBusy_withError c s s)
  | setkey =>
    cases answered
    rw [← unlessBusy_withError, apply_ite (withError c), ← raiseCmdError_withError]
    rfl
  | encrypt =>
    cases answered
    exact congrArg _ (presentCrypt_withError .encrypt c s)
  | decrypt =>
    cases answered
    exact congrArg _ (presentCrypt_withError .decrypt c s)

/-- Settles O35: the second run ends in the first one's state with the error recorded before it. -/
theorem recordedErrorDoesNotBlockCommands : Obligations.RecordedErrorDoesNotBlockCommands := by
  unfold Obligations.RecordedErrorDoesNotBlockCommands
  intro i s t u c clear recorded
  cases (exec_withError c clear).symm.trans recorded
  exact ⟨rfl, rfl, rfl⟩

end Sys2Proof.Proofs
end

section
/-! Reset and the loss of the key (70_reset_and_hazards.md R240 to R242): what the reset event restores, and the only command that clears KV. -/

namespace Sys2Proof.Proofs

open Sys2Proof.Machine Sys2Proof.Laws

/-! ### The reset event -/

/-- STATUS reads only the block's flags and ERRCODE, and these are the reset state's. -/
@[simp] theorem statusWord_hardwareReset (s : State) : statusWord (hardwareReset s) = 0 := by
  have atReset : statusWord State.reset = 0 := by decide
  exact atReset

/-- Settles O49: the reset turn is `hardwareReset`, which writes the whole block but FAULTED. -/
theorem resetEventRestoresEveryHardwareElement :
    Obligations.ResetEventRestoresEveryHardwareElement := by
  unfold Obligations.ResetEventRestoresEveryHardwareElement
  exact fun _ _ next => ⟨_, step_reset next, rfl, statusWord_hardwareReset _, hardwareReset_pend _⟩

/-! ### The loss of KV -/

/-- A completion sets KV or leaves it (R147, R167, R171). -/
theorem complete_keeps_kv {s : State} (keyed : s.kv = true) : (complete s).kv = true := by
  unfold complete
  split
  case h_2 => rfl
  all_goals exact keyed

/-- Of all that presenting a command can do, only the acceptance of SETKEY clears KV. -/
theorem presented_clears_kv {p t : State} (shown : Presented p t) (keyed : p.kv = true)
    (lost : t.kv = false) : p.busy = false ∧ t = acceptSetkey p := by
  cases shown with
  | setkey idle _ => exact ⟨idle, rfl⟩
  | refused e => simp [keyed] at lost
  | unchanged | encrypt | decrypt => exact absurd (keyed.symm.trans lost) nofun

/-- No other command than SETKEY clears KV, by the frame of its presentation. -/
theorem exec_clears_kv {i : Instr} {p t : State} (answered : exec i p = .next t)
    (keyed : p.kv = true) (lost : t.kv = false) : i = .setkey := by
  obtain ⟨-, nopFrame, -, cryptFrame, -⟩ := presentedCommandsFrame i p t answered
  have changed : t.kv ≠ p.kv := by simp [keyed, lost]
  cases i with
  | setkey => rfl
  | nop => exact absurd (congrArg (·.kv) (nopFrame rfl)) changed
  | encrypt => exact absurd (cryptFrame (.inl rfl)).1 changed
  | decrypt => exact absurd (cryptFrame (.inr rfl)).1 changed

/-- Settles O54: of all effects of a step only the reset and a presented command can clear KV, and the
command is then an accepted SETKEY, whose only word is 1. -/
theorem keyValidIsLostOnlyByResetOrSetkey : Obligations.KeyValidIsLostOnlyByResetOrSetkey := by
  unfold Obligations.KeyValidIsLostOnlyByResetOrSetkey
  intro s t stepped keyed lost
  cases step_effect stepped with
  | reset rest next => exact .inl ⟨rest, next⟩
  | presented rest w ops i _ issues decoded answered shown =>
    obtain rfl := exec_clears_kv answered keyed lost
    obtain rfl : w = encode .setkey := (decode_eq_ok_iff w .setkey).mp decoded
    obtain ⟨idle, rfl⟩ := presented_clears_kv shown keyed lost
    exact .inr ⟨idle, rfl, rfl, rest, ops, issues⟩
  | completed => simp [complete_keeps_kv, keyed] at lost
  | _ => simp [keyed] at lost

end Sys2Proof.Proofs
end

section
/-! The test vectors of 95_test_vectors.md, sections 4 to 6: the two combiners, the key schedules, and the block functions under the schedules already computed. -/

namespace Sys2Proof.Proofs

open Sys2Proof.Machine

/-- Settles O16: both functions evaluate to the listed values. -/
theorem combinerTestVectors : Obligations.CombinerTestVectors := by
  unfold Obligations.CombinerTestVectors
  refine ⟨?roundFunction, ?keyCombiner⟩
  case roundFunction => decide
  case keyCombiner => decide

/-- Settles O20: for each key the eight iterations of the loop evaluate to the listed outputs. -/
theorem scheduleTestVectors : Obligations.ScheduleTestVectors := by
  unfold Obligations.ScheduleTestVectors
  exact ⟨rfl, rfl, rfl, rfl, rfl⟩

/-- R145: a key's schedule, from its outputs once they are known. -/
theorem deriveSchedule_of_fkOutputs {key : Bytes8} {sched : Vector Halfword 8}
    (stored : fkOutputs key = sched) : deriveSchedule key = scheduleOf sched := by
  rw [← stored, storedOutputsAreTheDerivedSchedule]

/-- Settles O26: the four keys of the vectors are keys of O20, so only the rounds and the whitening
under their listed outputs are left to evaluate. -/
theorem blockTestVectors : Obligations.BlockTestVectors := by
  unfold Obligations.BlockTestVectors
  obtain ⟨known, zeros, ones, lowBit, -⟩ := scheduleTestVectors
  simp only [BitVec.ofNat_eq_ofNat, deriveSchedule_of_fkOutputs known,
    deriveSchedule_of_fkOutputs zeros, deriveSchedule_of_fkOutputs ones,
    deriveSchedule_of_fkOutputs lowBit]
  decide

end Sys2Proof.Proofs
end
